-- ==== Sys2Proof/Word.lean ====
section
/-! DEFINITION. The values the block works on (spec/00_scope.md rules R12, R13): bits, bytes, 32-bit words and finite sequences of them.
Index 0 of a sequence is the first element in time. -/

namespace Sys2Proof

/-- A byte, an unsigned integer 0..255 (R12). -/
abbrev Byte := BitVec 8

/-- A u32, an unsigned integer 0..2^32-1 (R12). -/
abbrev U32 := BitVec 32

/-- A bit sequence (R13, R60): `true` is the bit 1. -/
abbrev Bits := List Bool

/-- A byte sequence (R13, R60). -/
abbrev Bytes := List Byte

end Sys2Proof
end

