-- ==== Sys2Proof/Config.lean ====
section
/-! DEFINITION. What no source fixes (spec/00_scope.md rule R10; spec/93_implementation_defined.md): the open parameters as the
fields of `Config`, and the free values, which have no body. The fixed parameters of rule R9 stand with the units that use them. -/

namespace Sys2Proof

/-- The open parameters of rule R10 (decisions D16, D27, D30, D36). A machine carries one `Config` and no step changes it, so a
statement about every state holds for every admitted value. `SETTLE_DELAY` has no field: the model has no time (R267, log entry 6).
Nor has `SNR_EPS`, a positive real: nothing the block does depends on it, and it is the argument of `Machine.Snr.decibels`, which takes
any real number (log entry 9). -/
structure Config where
  /-- `SYNC_MARGIN`, a natural number (R10, R232) -/
  syncMargin  : Nat
  /-- `TX_AMPLITUDE`, a positive integer (R10, R280) -/
  txAmplitude : Nat
  /-- `SNR_HIST_CAP`, an integer of at least 1 (R10, R35) -/
  snrHistCap  : Nat
  /-- `MAX_SEQ`, `none` for the default "unbounded" (R10, R61, R106) -/
  maxSeq      : Option Nat
  deriving DecidableEq, Repr

/-- DESIGN CHOICE (log entry 5): the reference values of rule R10. Only `State.reset` uses them. -/
def Config.reference : Config :=
  { syncMargin := 0, txAmplitude := 1, snrHistCap := 4, maxSeq := none }

/-- What the Radio Device holds and the block cannot read (spec/10_state.md rule R39). No rule of the block branches on it. -/
structure RadioDevice where
  /-- whether it is configured -/
  configured : Bool
  /-- the receive buffer size last set, 0 when none was set -/
  rxSize     : BitVec 22
  /-- whether a transmit buffer is armed and replaying -/
  txArmed    : Bool
  /-- whether a receive buffer is armed -/
  rxArmed    : Bool
  deriving DecidableEq, Repr

/-- Free value (U8, U19; log entry 13): whether a call of the Radio Device that failed took effect in the device all the same, for the
draw with this number. -/
opaque Config.failedCallTookEffect : Nat → Bool

/-- Free value (R281, U9; log entry 10): the SNR estimate of a buffer whose mean power is 0, a real number, for the draw with this
number. -/
noncomputable opaque Config.silentSnr : Nat → ℝ

end Sys2Proof
end

