-- ==== Sys2Proof/Syntax.lean ====
section
/-! DEFINITION. The operation set (spec/30_encoding.md rules R97, R100 to R102): one constructor of `Instr` for each row of
spec/opcode_table.json, and the fields of a command word. Operands travel beside the command word (R101), so they are no part of `Instr`. -/

namespace Sys2Proof

/-- A code rate (R97). All four are legal: there is no reserved rate. -/
inductive Rate where
  /-- rate 1/2, code 0 -/
  | r12
  /-- rate 1/3, code 1 -/
  | r13
  /-- rate 2/3, code 2 -/
  | r23
  /-- rate 3/4, code 3 -/
  | r34
  deriving DecidableEq, Repr

/-- The operation a command word selects (R101, R102). -/
inductive Instr where
  /-- `bytesToBits`, word 00 (R131) -/
  | b2bits
  /-- `bitsToBytes`, word 10 (R132) -/
  | bits2b
  /-- `u32ToBits`, word 20 (R133) -/
  | u32bits
  /-- `bitsToU32`, word 30 (R134) -/
  | bitsu32
  /-- `crc32`, word 40 (R152) -/
  | crc32
  /-- `FEC.encode` at rate 1/2, word 50 (R168) -/
  | fecenc12
  /-- `FEC.encode` at rate 1/3, word 51 (R169) -/
  | fecenc13
  /-- `FEC.encode` at rate 2/3, word 52 (R171) -/
  | fecenc23
  /-- `FEC.encode` at rate 3/4, word 53 (R173) -/
  | fecenc34
  /-- `FEC.decode` at rate 1/2, word 60 (R177) -/
  | fecdec12
  /-- `FEC.decode` at rate 1/3, word 61 (R178) -/
  | fecdec13
  /-- `FEC.decode` at rate 2/3, word 62 (R179) -/
  | fecdec23
  /-- `FEC.decode` at rate 3/4, word 63 (R181) -/
  | fecdec34
  /-- `encodeFrame`, words 70 to 73 (R201) -/
  | encframe (rate : Rate)
  /-- `decodeFrame`, words 80 to 83 (R205) -/
  | decframe (rate : Rate)
  /-- `findPreamble`, word 90 (R231) -/
  | findpre
  /-- session start, word A0 (R260) -/
  | sstart
  /-- external stop signal, word B0 (R278) -/
  | sstop
  /-- observer snapshot, word C0 (R279) -/
  | ssnap
  deriving DecidableEq, Repr

/-- The three fields of a command word (R100): `CMD[7:4]`, `CMD[3:2]`, `CMD[1:0]`. -/
structure CmdFields where
  op   : BitVec 4
  zero : BitVec 2
  rate : BitVec 2
  deriving DecidableEq, Repr

end Sys2Proof
end

