-- ==== Sys2Proof/WellFormed.lean ====
section
/-! DEFINITION. The checks on what can be presented to the block: the fields of a command word (spec/30_encoding.md rules R100,
R105) and the admitted values of the open parameters (spec/00_scope.md rule R10). Every term of `Instr` is a legal operation by its
type; the run-time checks of operands (R106) and of the `SSTART` record (R260) belong to the meanings. -/

namespace Sys2Proof

/-- `OP` is not one of the reserved numbers 0xD, 0xE, 0xF (R102, R105). -/
def CmdFields.opAssigned (f : CmdFields) : Bool := decide (f.op.toNat ≤ 0xC)

/-- `CMD[3:2]` is `00` (R100, R105). -/
def CmdFields.zeroClear (f : CmdFields) : Bool := decide (f.zero = 0)

/-- `OP` is one of 5, 6, 7, 8: the operations that carry a rate in `CMD[1:0]` (R100). -/
def CmdFields.rated (f : CmdFields) : Bool := decide (5 ≤ f.op.toNat ∧ f.op.toNat ≤ 8)

/-- `CMD[1:0]` is `00` on an operation that carries no rate (R100, R105). -/
def CmdFields.rateAllowed (f : CmdFields) : Bool := f.rated || decide (f.rate = 0)

/-- The command word is legal (R105). -/
def CmdFields.wf (f : CmdFields) : Bool := f.opAssigned && f.zeroClear && f.rateAllowed

/-- The open parameters have admitted values (R10). -/
def Config.wf (c : Config) : Bool := decide (0 < c.txAmplitude) && decide (1 ≤ c.snrHistCap)

end Sys2Proof
end

