-- ==== Sys2Proof/Decode.lean ====
section
/-! DEFINITION. The command word (spec/30_encoding.md rules R97, R100 to R102, R105): its fields, the decoder, total on every
sequence of bytes, and the encoder. A command is one byte; there is no prefix and no second word (R100). -/

namespace Sys2Proof

/-- Why a command word selects no operation; each is the status `ILLEGAL_CMD` at the command port (R105). -/
inductive DecodeError where
  /-- there is no command word -/
  | noWord
  /-- `OP` is 0xD, 0xE or 0xF -/
  | reservedOp
  /-- `CMD[3:2]` is not `00` -/
  | zeroFieldSet
  /-- `CMD[1:0]` is not `00` on an operation without a rate -/
  | rateFieldSet
  deriving DecidableEq, Repr

/-- The fields of a command word (R100). -/
def fieldsOf (w : Byte) : CmdFields :=
  { op := w.extractLsb' 4 4, zero := w.extractLsb' 2 2, rate := w.extractLsb' 0 2 }

/-- The 2-bit rate code (R97). -/
def rateOfCode (c : BitVec 2) : Rate :=
  match c.toNat with
  | 0 => .r12
  | 1 => .r13
  | 2 => .r23
  | _ => .r34

/-- An operation without a rate: its rate field must be `00` (R105). -/
def decodeUnrated (f : CmdFields) (i : Instr) : Except DecodeError Instr :=
  if f.rate = 0 then .ok i else .error .rateFieldSet

/-- The operation that the fields select: the opcode map of R102. -/
def decodeFields (f : CmdFields) : Except DecodeError Instr :=
  if f.zero ≠ 0 then .error .zeroFieldSet else
  match f.op.toNat with
  | 0x0 => decodeUnrated f .b2bits
  | 0x1 => decodeUnrated f .bits2b
  | 0x2 => decodeUnrated f .u32bits
  | 0x3 => decodeUnrated f .bitsu32
  | 0x4 => decodeUnrated f .crc32
  | 0x5 => match rateOfCode f.rate with
    | .r12 => .ok .fecenc12
    | .r13 => .ok .fecenc13
    | .r23 => .ok .fecenc23
    | .r34 => .ok .fecenc34
  | 0x6 => match rateOfCode f.rate with
    | .r12 => .ok .fecdec12
    | .r13 => .ok .fecdec13
    | .r23 => .ok .fecdec23
    | .r34 => .ok .fecdec34
  | 0x7 => .ok (.encframe (rateOfCode f.rate))
  | 0x8 => .ok (.decframe (rateOfCode f.rate))
  | 0x9 => decodeUnrated f .findpre
  | 0xA => decodeUnrated f .sstart
  | 0xB => decodeUnrated f .sstop
  | 0xC => decodeUnrated f .ssnap
  | _   => .error .reservedOp

/-- The operation a command word selects. -/
def decodeWord (w : Byte) : Except DecodeError Instr := decodeFields (fieldsOf w)

/-- The first command of a stream of bytes, and the bytes after it. -/
def decode : Bytes → Except DecodeError (Instr × Bytes)
  | [] => .error .noWord
  | w :: rest => match decodeWord w with
    | .ok i => .ok (i, rest)
    | .error e => .error e

/-- Every command of a stream of bytes: a program in the sense of spec/95_test_vectors.md part 3. -/
def decodeAll : Bytes → Except DecodeError (List Instr)
  | [] => .ok []
  | w :: rest => match decodeWord w, decodeAll rest with
    | .ok i, .ok is => .ok (i :: is)
    | .error e, _ => .error e
    | .ok _, .error e => .error e

/-! ### The encoder -/

/-- The code of a rate (R97). -/
def Rate.code : Rate → BitVec 2
  | .r12 => 0
  | .r13 => 1
  | .r23 => 2
  | .r34 => 3

/-- The fields of an operation's command word (R100, R102). -/
def Instr.fields : Instr → CmdFields
  | .b2bits     => ⟨0x0, 0, 0⟩
  | .bits2b     => ⟨0x1, 0, 0⟩
  | .u32bits    => ⟨0x2, 0, 0⟩
  | .bitsu32    => ⟨0x3, 0, 0⟩
  | .crc32      => ⟨0x4, 0, 0⟩
  | .fecenc12   => ⟨0x5, 0, Rate.r12.code⟩
  | .fecenc13   => ⟨0x5, 0, Rate.r13.code⟩
  | .fecenc23   => ⟨0x5, 0, Rate.r23.code⟩
  | .fecenc34   => ⟨0x5, 0, Rate.r34.code⟩
  | .fecdec12   => ⟨0x6, 0, Rate.r12.code⟩
  | .fecdec13   => ⟨0x6, 0, Rate.r13.code⟩
  | .fecdec23   => ⟨0x6, 0, Rate.r23.code⟩
  | .fecdec34   => ⟨0x6, 0, Rate.r34.code⟩
  | .encframe r => ⟨0x7, 0, r.code⟩
  | .decframe r => ⟨0x8, 0, r.code⟩
  | .findpre    => ⟨0x9, 0, 0⟩
  | .sstart     => ⟨0xA, 0, 0⟩
  | .sstop      => ⟨0xB, 0, 0⟩
  | .ssnap      => ⟨0xC, 0, 0⟩

/-- The command word with these fields (R100). -/
def CmdFields.word (f : CmdFields) : Byte := f.op ++ f.zero ++ f.rate

/-- The bytes of an operation: its one command word. -/
def encode (i : Instr) : Bytes := [i.fields.word]

/-- The `n` low bytes of a number, the least significant first: how the numbering of the opcode table lays words out. -/
def bytesOfNat : Nat → Nat → Bytes
  | 0, _ => []
  | n + 1, w => BitVec.ofNat 8 w :: bytesOfNat n (w / 256)

/-- The operation the decoder reads from the bits `w` of an opcode-table row of `nbits` bits. -/
def decodeTableWord (nbits w : Nat) : Option Instr :=
  match decode (bytesOfNat (nbits / 8) w) with
  | .ok (i, _) => some i
  | .error _ => none

end Sys2Proof
end

