-- ==== Sys2Proof/Machine/State.lean ====
section
/-! DEFINITION. The state of the block as plain data (spec/10_state.md rules R20 to R42), the values that cross its five interfaces
(spec/45_session_controller.md rule R252), the ways a step can stop, and the state after power-on reset.

The fields of `State` fall into the classes of rule R20: the session record with the sequencing state `S`, the session parameter
registers, the session buffers, the worker's position, and the hidden state of the Radio Device. The rest is the model's own: the
open parameters, the operand port, the agents' forthcoming moves, the outputs so far, and a counter of free values drawn. The working
registers of rules R23 to R27 live inside one operation and are not kept (R21, U15). There is no addressable memory (R40). -/

namespace Sys2Proof.Machine

/-! ### Values of the registers -/

/-- The session FSM state `S` (R28). Code 7 is reserved and never written, so it is left out (R28, U4, log entry 25). -/
inductive SessionState where
  /-- 0: no session has run since reset -/
  | idle
  /-- 1: parameters valid, payload resolved, Radio Device configured -/
  | configured
  /-- 2: frame built, receive window sized, cyclic transmit armed -/
  | transmitting
  /-- 3: receive loop running -/
  | listening
  /-- 4: a frame was decoded -/
  | decoded
  /-- 5: the session ended without a decode -/
  | failed
  /-- 6: buffers released, outcome reported -/
  | stopped
  deriving DecidableEq, Repr

/-- `FAIL_REASON` (R36). Codes 5 to 7 are reserved and never written (U4). -/
inductive FailReason where
  /-- 0: no failure -/
  | none
  /-- 1: `SSTART` validation failed; reported, never stored -/
  | configError
  /-- 2: a Radio Device call failed -/
  | deviceError
  /-- 3: `READS = MAX_READS` with no decode -/
  | budgetExhausted
  /-- 4: `RUNNING = 0` seen at the poll point -/
  | cancelled
  deriving DecidableEq, Repr

/-- The kind of a payload (R34, R255). -/
inductive PayloadKind where
  /-- 0 -/
  | text
  /-- 1 -/
  | file
  /-- 2 -/
  | wav
  /-- 3: reserved; a host can present it and `SSTART` refuses it (R107, R260) -/
  | reserved
  deriving DecidableEq, Repr

/-- A complex sample (R62); its parts are exact, and rational in the model (log entry 9). -/
structure Sample where
  re : Rat
  im : Rat
  deriving DecidableEq, Repr

/-- An SNR estimate (R281), a real number in decibels of which only the history and `onStats` see anything. It is held as plain data;
`Snr.decibels` is the number it stands for, for any value of `SNR_EPS`. -/
inductive Snr where
  /-- 10·log10(power / (variance + `SNR_EPS`)) -/
  | tenLog10 (power variance : Rat)
  /-- the estimate of a buffer of mean power 0, which is unspecified (U9): the free value of the draw with this number -/
  | unstated (draw : Nat)
  deriving DecidableEq, Repr

/-- Text and addresses the block passes on without interpreting them (R33, R34); DESIGN CHOICE, log entry 22. -/
abbrev Uninterpreted := Bytes

/-! ### The session's registers -/

/-- The session record (R31), with the FSM state register (R28) and the running flag (R30). -/
structure SessionRecord where
  /-- `S` -/
  fsm          : SessionState
  /-- `RUNNING` -/
  running      : Bool
  /-- `FRAMES_TX` -/
  framesTx     : BitVec 32
  /-- `READS` -/
  reads        : BitVec 32
  /-- `DECODES` -/
  decodes      : BitVec 32
  /-- `SNR_HIST`, oldest first (R35) -/
  snrHist      : List Snr
  /-- `RXBUF_SIZE` (R37) -/
  rxBufSize    : BitVec 22
  /-- `FRAME_SAMPLES` -/
  frameSamples : BitVec 64
  /-- `FAIL_REASON` (R36) -/
  failReason   : FailReason
  deriving DecidableEq, Repr

/-- The session parameter registers (R33). The block does not interpret the six radio parameters. -/
structure SessionParams where
  /-- `RATE` -/
  rate       : Rate
  /-- `SPS` -/
  sps        : BitVec 16
  /-- `MAX_READS` -/
  maxReads   : BitVec 32
  /-- `RADIO_ADDR` -/
  radioAddr  : Uninterpreted
  /-- `TX_FREQ` -/
  txFreq     : Rat
  /-- `RX_FREQ` -/
  rxFreq     : Rat
  /-- `SAMPLE_RATE` -/
  sampleRate : Rat
  /-- `TX_GAIN` -/
  txGain     : Rat
  /-- `RX_GAIN` -/
  rxGain     : Rat
  deriving DecidableEq, Repr

/-- The session buffers (R34). -/
structure SessionBuffers where
  /-- `PAYLOAD` -/
  payload     : Bytes
  /-- `PAYLOAD_NAME` -/
  payloadName : Uninterpreted
  /-- `PAYLOAD_KIND` -/
  payloadKind : PayloadKind
  /-- `FRAME` -/
  frame       : Bits
  /-- `RESULT` -/
  result      : Bytes
  /-- `RESULT_VALID` -/
  resultValid : Bool
  deriving DecidableEq, Repr

/-- Which rule the session worker performs next. The spec implies it: a worker step is one rule and a host step can fall between any
two of them (R76, R259), so `S` alone does not say where the worker stands (DEDUCED, log entry 11). -/
inductive WorkerStep where
  /-- no worker step is enabled (R277, R350) -/
  | resting
  /-- rule R262 -/
  | configure
  /-- rule R263 -/
  | build
  /-- rule R264 -/
  | size
  /-- rule R265 -/
  | transmit
  /-- rule R267 -/
  | settle
  /-- rule R270 -/
  | poll
  /-- rule R271 -/
  | receive
  /-- rule R272 -/
  | diagnose
  /-- rules R273, R274 -/
  | attempt
  /-- rule R276 -/
  | finish
  deriving DecidableEq, Repr

/-! ### What goes in -/

/-- The operand record of `SSTART` (R256). -/
structure StartRecord where
  present     : Bool
  bytes       : Bytes
  displayName : Uninterpreted
  kind        : PayloadKind
  /-- `rate`, `sps`, `maxReads`, `radioAddr`, `txFreq`, `rxFreq`, `sampleRate`, `txGain`, `rxGain` -/
  params      : SessionParams
  deriving DecidableEq, Repr

/-- The operand port (R101): one lane for each type of operand. A command reads the lanes its row of R101 names and no other. -/
structure Operands where
  /-- the byte sequence of `B2BITS`, `CRC32`, `ENCFRAME` -/
  bytes  : Bytes
  /-- the bit sequence of `BITS2B`, `BITSU32`, `FECENC`, `FECDEC`, `DECFRAME`, `FINDPRE` -/
  bits   : Bits
  /-- the u32 of `U32BITS` -/
  word   : U32
  /-- the start index of `DECFRAME` -/
  start  : Nat
  /-- the record of `SSTART` -/
  record : StartRecord
  deriving DecidableEq, Repr

/-- What the Radio Device answers to a call (R253, R254): the call returns or fails. Only `receive` looks at the samples: they are what
its buffer holds from the first sample on, and every later sample is 0. The buffer's length is not the device's to choose, so no answer
has another than `RXBUF_SIZE` (U7: no move; DESIGN CHOICE, log entry 15). -/
inductive RadioAnswer where
  | failed
  | returned (samples : List Sample)
  deriving DecidableEq, Repr

/-- One move of an agent outside the step function (R75: the moves are atomic and totally ordered). DESIGN CHOICE, log entry 14. -/
inductive Input where
  /-- the host presents a command word and its operands -/
  | command (word : Byte) (operands : Operands)
  /-- the worker takes its next step, and the Radio Device answers the step's first and second call so (only R276 makes two) -/
  | worker (first second : RadioAnswer)
  deriving DecidableEq, Repr

/-! ### What goes out -/

/-- The response status (R103). Codes 6 to 15 are never returned (U4). -/
inductive Status where
  /-- 0 -/
  | ok
  /-- 1: completed and found nothing; not an error -/
  | none
  /-- 2 -/
  | illegalCmd
  /-- 3 -/
  | badOperand
  /-- 4 -/
  | busy
  /-- 5 -/
  | configError
  deriving DecidableEq, Repr

/-- The diagnostic sub-code of a `DECFRAME` miss (R104). -/
inductive MissCode where
  /-- 1: fewer than 64 bits from the start index (R206) -/
  | shortHeader
  /-- 2: LENGTH is 0 or above 50,000,000 (R207) -/
  | lenRange
  /-- 3: fewer than `encLen` bits after the header (R209) -/
  | shortPayload
  /-- 4: decoded bit count below `8 × length` (R211) -/
  | shortFec
  /-- 5: byte count differs from LENGTH (R213) -/
  | byteCount
  /-- 6: the CRC of the decoded bytes is not the received one (R214) -/
  | crcMismatch
  deriving DecidableEq, Repr

/-- The copy `SSNAP` returns (R279). -/
structure Snapshot where
  record      : SessionRecord
  resultValid : Bool
  result      : Bytes
  payloadName : Uninterpreted
  payloadKind : PayloadKind
  deriving DecidableEq, Repr

/-- The result carried by a response (R101). -/
inductive Result where
  | none
  | bits (b : Bits)
  | bytes (b : Bytes)
  | word (x : U32)
  | index (n : Nat)
  | snapshot (c : Snapshot)
  deriving DecidableEq, Repr

/-- A response (R103, R104). -/
structure Response where
  status : Status
  miss   : Option MissCode
  result : Result
  deriving DecidableEq, Repr

/-- A call of the Radio Device with its arguments (R253). -/
inductive RadioCall where
  /-- for the device at this address (R262) -/
  | configure (addr : Uninterpreted) (txFreq rxFreq sampleRate txGain rxGain : Rat) (cyclicTx : Bool)
  | setReceiveBufferSize (samples : BitVec 22)
  | transmit (samples : List Sample)
  | receive
  | releaseTransmitBuffer
  | releaseReceiveBuffer
  deriving DecidableEq, Repr

/-- An observer callback (R257). `onLog` is left out, as R257 allows (log entry 7). -/
inductive Notice where
  | onStats (snr : Snr) (reads : BitVec 32) (bufferSize : BitVec 22) (frameSamples : BitVec 64)
  | onDecoded (bytes : Bytes) (name : Uninterpreted) (kind : PayloadKind)
  | onFailed (reason : FailReason)
  deriving DecidableEq, Repr

/-- One thing the block does that an agent outside it can see. -/
inductive Output where
  /-- a command's response -/
  | response (r : Response)
  /-- a call of the Radio Device, and whether it returned -/
  | call (c : RadioCall) (returned : Bool)
  /-- a callback -/
  | notify (n : Notice)
  deriving DecidableEq, Repr

/-! ### The ways a step can stop -/

/-- There is no fault: "the block has none; no rule raises one" (spec/60_exceptions.md rule R327 (a)). The type has no constructor,
so no step can end in one: safe. -/
inductive Fault
  deriving DecidableEq, Repr

/-- What a step answers when an operation has no meaning in the model. -/
inductive Refusal where
  /-- Raised by `exec` alone, in the arm of an operation that has no meaning yet; no arm is left with it. Safe. -/
  | notModelled (mnemonic : String)
  deriving DecidableEq, Repr

/-! ### The state -/

/-- The state of the block and, as plain data, of what it meets. -/
structure State where
  /-- the session record and `S` -/
  record   : SessionRecord
  /-- the session parameter registers -/
  params   : SessionParams
  /-- the session buffers -/
  buffers  : SessionBuffers
  /-- where the session worker stands (R76, R259) -/
  worker   : WorkerStep
  /-- the buffer the last `receive` returned, from R271 until R273 has processed it -/
  rxBuffer : List Sample
  /-- the hidden state of the Radio Device (R39) -/
  radio    : RadioDevice
  /-- the open parameters (R10); no step changes them -/
  config   : Config
  /-- the operands that stand at the operand port (R101) -/
  operands : Operands
  /-- the agents' forthcoming moves, the next first (log entries 8 and 14) -/
  inputs   : List Input
  /-- the outputs so far, the oldest first (log entry 20) -/
  trace    : List Output
  /-- how many free values have been drawn (log entries 10, 13, 20) -/
  draws    : Nat
  deriving DecidableEq, Repr

/-! ### Power-on reset -/

/-- The session record at power-on reset (R31, R41). -/
def SessionRecord.reset : SessionRecord :=
  { fsm := .idle, running := false, framesTx := 0, reads := 0, decodes := 0, snrHist := [], rxBufSize := 0, frameSamples := 0,
    failReason := .none }

/-- DESIGN CHOICE (log entry 1): the spec leaves the parameter registers unspecified at power-on reset and no rule reads one before
an accepted `SSTART` has written it (R33, R41); the model holds zero in each. -/
def SessionParams.reset : SessionParams :=
  { rate := .r12, sps := 0, maxReads := 0, radioAddr := [], txFreq := 0, rxFreq := 0, sampleRate := 0, txGain := 0, rxGain := 0 }

/-- The session buffers at power-on reset (R34, R41). -/
def SessionBuffers.reset : SessionBuffers :=
  { payload := [], payloadName := [], payloadKind := .text, frame := [], result := [], resultValid := false }

/-- DESIGN CHOICE (log entry 2): nothing stands at the operand port. -/
def Operands.reset : Operands :=
  { bytes := [], bits := [], word := 0, start := 0,
    record := { present := false, bytes := [], displayName := [], kind := .text, params := SessionParams.reset } }

/-- DESIGN CHOICE (log entry 3): a Radio Device that has met no call yet. Power-on reset does not touch it (R351). -/
def resetRadio : RadioDevice :=
  { configured := false, rxSize := 0, txArmed := false, rxArmed := false }

/-- The state after power-on reset (R41, R350) of a block with these open parameters. -/
def State.resetWith (c : Config) : State :=
  { record := SessionRecord.reset, params := SessionParams.reset, buffers := SessionBuffers.reset, worker := .resting, rxBuffer := [],
    radio := resetRadio, config := c, operands := Operands.reset, inputs := [], trace := [], draws := 0 }

/-- The state after power-on reset (R41, R350). -/
def State.reset : State := State.resetWith Config.reference

end Sys2Proof.Machine
end

