-- ==== Sys2Proof/Machine/Flags.lean ====
section
/-! DEFINITION. The one architectural flag, `RUNNING` (spec/10_state.md rule R30). No operation computes a carry, zero, sign or
overflow flag: there are no arithmetic condition codes. -/

namespace Sys2Proof.Machine

/-- `RUNNING <- 0`: the host's stop signal (R278), and the worker's at the way out (R276). -/
def State.clearRunning (s : State) : State := { s with record := { s.record with running := false } }

/-- A stop is pending (R319): `RUNNING = 0` while `S` is `CONFIGURED`, `TRANSMITTING` or `LISTENING`. -/
def State.stopPending (s : State) : Bool :=
  !s.record.running &&
    (decide (s.record.fsm = .configured) || decide (s.record.fsm = .transmitting) || decide (s.record.fsm = .listening))

end Sys2Proof.Machine
end

