-- ==== Sys2Proof/Machine/Ops.lean ====
section
/-! DEFINITION. The operations every unit shares: numeric codes, reads of a sequence, the outputs of a step, one call of the Radio
Device, the SNR history, the entry to `FAILED` (the block's analogue of taking an exception, R322) and the way out of `DECODED` and
`FAILED` (its analogue of returning from one, R276, R323). -/

namespace Sys2Proof.Machine

/-! ### Numeric codes -/

/-- The 3-bit code of `S` (R28). -/
def SessionState.code : SessionState → BitVec 3
  | .idle => 0 | .configured => 1 | .transmitting => 2 | .listening => 3 | .decoded => 4 | .failed => 5 | .stopped => 6

/-- The 3-bit code of `FAIL_REASON` (R36). -/
def FailReason.code : FailReason → BitVec 3
  | .none => 0 | .configError => 1 | .deviceError => 2 | .budgetExhausted => 3 | .cancelled => 4

/-- The 2-bit code of a payload kind (R34). -/
def PayloadKind.code : PayloadKind → BitVec 2
  | .text => 0 | .file => 1 | .wav => 2 | .reserved => 3

/-- The 4-bit response status (R103). -/
def Status.code : Status → BitVec 4
  | .ok => 0 | .none => 1 | .illegalCmd => 2 | .badOperand => 3 | .busy => 4 | .configError => 5

/-- The 3-bit diagnostic sub-code (R104). -/
def MissCode.code : MissCode → BitVec 3
  | .shortHeader => 1 | .lenRange => 2 | .shortPayload => 3 | .shortFec => 4 | .byteCount => 5 | .crcMismatch => 6

/-! ### Sequences -/

/-- `MemRead(s, i, n)` (R14): the `n` elements of `s` from index `i` on. Every rule that uses it first tests `i + n <= len(s)`. -/
def memRead {α : Type} (s : List α) (i n : Nat) : List α := (s.drop i).take n

/-! ### Outputs of a step -/

/-- The step's outputs are added at the end of the trace. -/
def State.emit (s : State) (os : List Output) : State := { s with trace := s.trace ++ os }

/-- Status `OK` with a result (R103). -/
def Response.ok (r : Result) : Response := { status := .ok, miss := none, result := r }

/-- Status `NONE` (R103), with the sub-code of R104 for `DECFRAME` and without one for `FINDPRE`. -/
def Response.notFound (m : Option MissCode) : Response := { status := .none, miss := m, result := .none }

/-- A refusal: a status without a result (R103, R318). -/
def Response.refusal (c : Status) : Response := { status := c, miss := none, result := .none }

/-- A command ends with this response, returned to its issuer (R310). -/
def State.respond (s : State) (r : Response) : State := s.emit [.response r]

/-- A command that changes nothing and ends with this response. -/
def answer (s : State) (r : Response) : Host.Outcome State Fault Refusal := .next (s.respond r)

/-! ### The Radio Device -/

/-- The hidden state of the Radio Device after a call that returned (R39, R253). DEDUCED: it is `receive` that arms the receive
buffer (log entry 12). -/
def deviceAfter (d : RadioDevice) : RadioCall → RadioDevice
  | .configure _ _ _ _ _ _ _ => { d with configured := true }
  | .setReceiveBufferSize n   => { d with rxSize := n }
  | .transmit _               => { d with txArmed := true }
  | .receive                  => { d with rxArmed := true }
  | .releaseTransmitBuffer    => { d with txArmed := false }
  | .releaseReceiveBuffer     => { d with rxArmed := false }

/-- The hidden state of the Radio Device after a call that failed (R39). Whether the call took effect all the same is unspecified (U8,
U19); what the call does not concern stays as it is, so only a release ends a replay. A failed `configure` may also leave a device
that was configured unconfigured. -/
def deviceAfterFailure (tookEffect : Bool) (d : RadioDevice) : RadioCall → RadioDevice
  | .configure _ _ _ _ _ _ _  => { d with configured := tookEffect }
  | .setReceiveBufferSize n   => if tookEffect then deviceAfter d (.setReceiveBufferSize n) else d
  | .transmit w               => if tookEffect then deviceAfter d (.transmit w) else d
  | .receive                  => if tookEffect then deviceAfter d .receive else d
  | .releaseTransmitBuffer    => if tookEffect then deviceAfter d .releaseTransmitBuffer else d
  | .releaseReceiveBuffer     => if tookEffect then deviceAfter d .releaseReceiveBuffer else d

/-- `call Radio.op(args)` with the device's answer (R14, R254). Whether a failed call took effect in the device is a free value (log
entry 13). Nothing else of the state changes; the caller acts on the answer. -/
def State.radioCall (s : State) (c : RadioCall) : RadioAnswer → State
  | .returned _ => { s with radio := deviceAfter s.radio c, trace := s.trace ++ [.call c true] }
  | .failed =>
    { s with radio := deviceAfterFailure (Config.failedCallTookEffect s.draws) s.radio c, draws := s.draws + 1,
             trace := s.trace ++ [.call c false] }

/-! ### The SNR history -/

/-- The append of R35: at capacity the oldest entry goes first. -/
def snrAppend (cap : Nat) (hist : List Snr) (v : Snr) : List Snr :=
  (if hist.length = cap then hist.drop 1 else hist) ++ [v]

/-! ### Into FAILED, and out of DECODED and FAILED -/

/-- The entry to `FAILED` (R322): `FAIL_REASON` and `S` are written, everything else is kept, and the worker's only step is R276. -/
def State.enterFailed (s : State) (r : FailReason) : State :=
  { s with record := { s.record with failReason := r, fsm := .failed }, worker := .finish }

/-- The report of a session's outcome (R276): `onDecoded` with this session's own name and kind, or `onFailed`. -/
def State.outcomeNotice (s : State) : Notice :=
  if s.record.fsm = .decoded then .onDecoded s.buffers.result s.buffers.payloadName s.buffers.payloadKind
  else .onFailed s.record.failReason

/-- The way out (R276, R323, R324): both releases are called in order and their failures ignored, `RUNNING` is cleared, the outcome
reported, and `S` becomes `STOPPED`. -/
def State.leaveSession (s : State) (releaseTx releaseRx : RadioAnswer) : State :=
  let t := (s.radioCall .releaseTransmitBuffer releaseTx).radioCall .releaseReceiveBuffer releaseRx
  let t := t.clearRunning.emit [.notify s.outcomeNotice]
  { t with record := { t.record with fsm := .stopped }, worker := .resting }

end Sys2Proof.Machine
end

