-- ==== Sys2Proof/Machine/Operands.lean ====
section
/-! DEFINITION. The operands of a command and their domains (spec/30_encoding.md rules R101, R106). Each operand is one lane of the
operand port; what a command does with an operand outside its domain is `BAD_OPERAND`, which changes no state (R103, R318). -/

namespace Sys2Proof.Machine

/-- A sequence of this length is within `MAX_SEQ` (R61, R106). DEDUCED: which operands it bounds, log entry 23. -/
def State.fits (s : State) (n : Nat) : Bool :=
  match s.config.maxSeq with
  | none => true
  | some m => decide (n ≤ m)

/-- The answer to a command whose operand is outside its domain (R106). -/
def badOperand (s : State) : Host.Outcome State Fault Refusal := answer s (.refusal .badOperand)

/-- A command with one sequence operand of this length: refused when longer than `MAX_SEQ`, else it ends with this response. -/
def sequenceCommand (s : State) (len : Nat) (r : Response) : Host.Outcome State Fault Refusal :=
  if s.fits len then answer s r else badOperand s

/-- The longest payload LENGTH can hold, `2^32 - 1` bytes (R106, R201, R260). -/
def maxPayload : Nat := 4294967295

/-- Validation of the `SSTART` record (R260): `sps = 0`, `kind = 3`, an absent payload or one of 2^32 bytes or more is refused. -/
def StartRecord.valid (r : StartRecord) : Bool :=
  decide (r.params.sps ≠ 0) && decide (r.kind ≠ .reserved) && r.present && decide (r.bytes.length ≤ maxPayload)

end Sys2Proof.Machine
end

