-- ==== Sys2Proof/Machine/Command.lean ====
section
/-! DEFINITION. The command port (spec/30_encoding.md rules R100, R101, R105): how a presented command word is taken in. -/

namespace Sys2Proof.Machine

/-- The operation a presented command word selects: the decoder on the one byte of the command (R100). -/
def fetchCommand (w : Byte) : Except DecodeError Instr :=
  match decode [w] with
  | .ok (i, _) => .ok i
  | .error e => .error e

/-- The presented operands stand at the operand port, and the moves after this one are the ones to come. -/
def State.acceptCommand (s : State) (operands : Operands) (rest : List Input) : State :=
  { s with operands := operands, inputs := rest }

/-- A command word that selects no operation: `ILLEGAL_CMD`, before any look at operands or state (R105, R321). -/
def illegalCommand (s : State) : Host.Outcome State Fault Refusal := answer s (.refusal .illegalCmd)

/-- The command word among the `nbits` low bits of `w`: its first byte. -/
def commandWord (nbits w : Nat) : Byte := (bytesOfNat (nbits / 8) w).headD 0

/-- The host's next move presents this command word with the operands that stand at the port. -/
def State.presentCommand (s : State) (w : Byte) : State := { s with inputs := .command w s.operands :: s.inputs }

end Sys2Proof.Machine
end

