-- ==== Sys2Proof/Machine/Codec.lean ====
section
/-! DEFINITION. The Bit/Byte Codec (spec/40_bitbyte_codec.md): `B2BITS`, `BITS2B`, `U32BITS`, `BITSU32`. The order is most
significant bit first in both directions (spec/20_memory.md rules R63 to R65). -/

namespace Sys2Proof.Machine

/-- The bits of a byte or word, the most significant first (R63, R64): element `j` is bit `w - 1 - j`. -/
def bitsMsbFirst {w : Nat} (x : BitVec w) : Bits := (List.range w).map fun j => x.getLsbD (w - 1 - j)

/-- One bit shifted in at the low end (R132, R134): `SH <- (SH << 1) OR bit`. -/
def shiftIn {w : Nat} (sh : BitVec w) (b : Bool) : BitVec w := (sh <<< 1) ||| (if b then 1 else 0)

/-- The value whose most significant bit is the first bit of the sequence: the shift register starts at 0 and takes every bit. -/
def ofBitsMsbFirst (w : Nat) (bits : Bits) : BitVec w := bits.foldl shiftIn 0

/-- `bytesToBits` (R131). -/
def bytesToBits (bytes : Bytes) : Bits := bytes.flatMap fun b => bitsMsbFirst b

/-- `bitsToBytes` (R132): eight bits at a time; a remainder shorter than eight bits is dropped. -/
def bitsToBytes : Bits → Bytes
  | b0 :: b1 :: b2 :: b3 :: b4 :: b5 :: b6 :: b7 :: rest =>
    ofBitsMsbFirst 8 [b0, b1, b2, b3, b4, b5, b6, b7] :: bitsToBytes rest
  | _ => []

/-- `u32ToBits` (R133). -/
def u32ToBits (x : U32) : Bits := bitsMsbFirst x

/-- `bitsToU32` on a sequence of 32 bits (R134). -/
def bitsToU32 (bits : Bits) : U32 := ofBitsMsbFirst 32 bits

/-- `B2BITS` (R131). -/
def execB2bits (s : State) : Host.Outcome State Fault Refusal :=
  sequenceCommand s s.operands.bytes.length (.ok (.bits (bytesToBits s.operands.bytes)))

/-- `BITS2B` (R132). -/
def execBits2b (s : State) : Host.Outcome State Fault Refusal :=
  sequenceCommand s s.operands.bits.length (.ok (.bytes (bitsToBytes s.operands.bits)))

/-- `U32BITS` (R133). -/
def execU32bits (s : State) : Host.Outcome State Fault Refusal :=
  answer s (.ok (.bits (u32ToBits s.operands.word)))

/-- `BITSU32` (R134): a sequence that is not 32 bits long is outside the domain (R106). -/
def execBitsu32 (s : State) : Host.Outcome State Fault Refusal :=
  if s.operands.bits.length = 32 then
    sequenceCommand s s.operands.bits.length (.ok (.word (bitsToU32 s.operands.bits)))
  else badOperand s

end Sys2Proof.Machine
end

