-- ==== Sys2Proof/Machine/Fec.lean ====
section
/-! DEFINITION. The FEC Codec (spec/42_fec.md): a repetition and parity code on hard bits at four rates, `FECENC.r` and `FECDEC.r`.
Groups are counted from index 0 of the operand and carry no state from one to the next (R166). -/

namespace Sys2Proof.Machine

/-! ### The expansion of a rate (R97) -/

/-- `NUM` of the expansion factor (R97). -/
def expansionNum : Rate → Nat
  | .r12 => 2 | .r13 => 3 | .r23 => 3 | .r34 => 4

/-- `DEN` of the expansion factor (R97). -/
def expansionDen : Rate → Nat
  | .r12 => 1 | .r13 => 1 | .r23 => 2 | .r34 => 3

/-- `encLen(pbl, rate) = ceil(pbl × NUM / DEN)`, in exact integers (R97, R208). -/
def encLen (pbl : Nat) (rate : Rate) : Nat := (pbl * expansionNum rate + expansionDen rate - 1) / expansionDen rate

/-! ### Encoders -/

/-- Rate 1/2: each bit is emitted twice (R168). -/
def fecEncode12 : Bits → Bits
  | [] => []
  | b :: rest => b :: b :: fecEncode12 rest

/-- Rate 1/3: each bit is emitted three times (R169). -/
def fecEncode13 : Bits → Bits
  | [] => []
  | b :: rest => b :: b :: b :: fecEncode13 rest

/-- Rate 2/3: pairs with their parity; an odd last bit `b` is emitted as `b 0 b` (R171, R172). -/
def fecEncode23 : Bits → Bits
  | b0 :: b1 :: rest => b0 :: b1 :: (b0 ^^ b1) :: fecEncode23 rest
  | [b] => [b, false, b]
  | [] => []

/-- Rate 3/4: triples with the parity of their first two bits; a tail of 1 or 2 bits is padded with zeros to 4 bits, with no parity
(R173, R174). -/
def fecEncode34 : Bits → Bits
  | b0 :: b1 :: b2 :: rest => b0 :: b1 :: b2 :: (b0 ^^ b1) :: fecEncode34 rest
  | [b0, b1] => [b0, b1, false, false]
  | [b0] => [b0, false, false, false]
  | [] => []

/-- `FEC.encode` at a rate (R186). -/
def fecEncode : Rate → Bits → Bits
  | .r12 => fecEncode12
  | .r13 => fecEncode13
  | .r23 => fecEncode23
  | .r34 => fecEncode34

/-! ### Decoders -/

/-- Rate 1/2: a pair decodes to the OR of its bits; a single last bit is dropped (R177, R180). -/
def fecDecode12 : Bits → Bits
  | a :: b :: rest => (a || b) :: fecDecode12 rest
  | _ => []

/-- The value of a bit in a sum. -/
def bitValue (b : Bool) : Nat := if b then 1 else 0

/-- Rate 1/3: a triple decodes to 1 when its sum is at least 2; a remainder of 1 or 2 bits is dropped (R178, R180). -/
def fecDecode13 : Bits → Bits
  | a :: b :: c :: rest => decide (2 ≤ bitValue a + bitValue b + bitValue c) :: fecDecode13 rest
  | _ => []

/-- Rate 2/3: the first two bits of each triple; a remainder of 1 or 2 bits is emitted as it is (R179, R180). -/
def fecDecode23 : Bits → Bits
  | b0 :: b1 :: _ :: rest => b0 :: b1 :: fecDecode23 rest
  | tail => tail

/-- Rate 3/4: the first three bits of each quadruple; a remainder of 1 to 3 bits is emitted as it is (R181, R180). -/
def fecDecode34 : Bits → Bits
  | b0 :: b1 :: b2 :: _ :: rest => b0 :: b1 :: b2 :: fecDecode34 rest
  | tail => tail

/-- `FEC.decode` at a rate (R186). -/
def fecDecode : Rate → Bits → Bits
  | .r12 => fecDecode12
  | .r13 => fecDecode13
  | .r23 => fecDecode23
  | .r34 => fecDecode34

/-! ### The lengths the spec gives -/

/-- `encOut(n, rate)` (R167). -/
def encOut (n : Nat) : Rate → Nat
  | .r12 => 2 * n
  | .r13 => 3 * n
  | .r23 => 3 * ((n + 1) / 2)
  | .r34 => 4 * ((n + 2) / 3)

/-- `decOut(m, rate)` (R182). -/
def decOut (m : Nat) : Rate → Nat
  | .r12 => m / 2
  | .r13 => m / 3
  | .r23 => 2 * (m / 3) + min (m % 3) 2
  | .r34 => 3 * (m / 4) + m % 4

/-! ### The operations -/

/-- `FECENC.r` for a rate (R165, R167). -/
def fecEncodeCommand (rate : Rate) (s : State) : Host.Outcome State Fault Refusal :=
  sequenceCommand s s.operands.bits.length (.ok (.bits (fecEncode rate s.operands.bits)))

/-- `FECDEC.r` for a rate (R165, R176). -/
def fecDecodeCommand (rate : Rate) (s : State) : Host.Outcome State Fault Refusal :=
  sequenceCommand s s.operands.bits.length (.ok (.bits (fecDecode rate s.operands.bits)))

/-- `FECENC.12` (R168). -/
def execFecenc12 (s : State) : Host.Outcome State Fault Refusal := fecEncodeCommand .r12 s

/-- `FECENC.13` (R169). -/
def execFecenc13 (s : State) : Host.Outcome State Fault Refusal := fecEncodeCommand .r13 s

/-- `FECENC.23` (R171). -/
def execFecenc23 (s : State) : Host.Outcome State Fault Refusal := fecEncodeCommand .r23 s

/-- `FECENC.34` (R173). -/
def execFecenc34 (s : State) : Host.Outcome State Fault Refusal := fecEncodeCommand .r34 s

/-- `FECDEC.12` (R177). -/
def execFecdec12 (s : State) : Host.Outcome State Fault Refusal := fecDecodeCommand .r12 s

/-- `FECDEC.13` (R178). -/
def execFecdec13 (s : State) : Host.Outcome State Fault Refusal := fecDecodeCommand .r13 s

/-- `FECDEC.23` (R179). -/
def execFecdec23 (s : State) : Host.Outcome State Fault Refusal := fecDecodeCommand .r23 s

/-- `FECDEC.34` (R181). -/
def execFecdec34 (s : State) : Host.Outcome State Fault Refusal := fecDecodeCommand .r34 s

end Sys2Proof.Machine
end

