-- ==== Sys2Proof/Machine/Frame.lean ====
section
/-! DEFINITION. The Frame Codec (spec/43_frame_codec.md): `ENCFRAME.r` and `DECFRAME.r`, over the wire format of
spec/30_encoding.md rules R90 to R96. -/

namespace Sys2Proof.Machine

/-- `PREAMBLE16`, first bit leftmost (R9, R92). -/
def preamble16 : Bits :=
  [true, false, true, true, false, true, false, false, true, true, true, false, false, true, false, true]

/-- `PREAMBLE`: the pattern four times, 64 bits (R9, R92). -/
def preamble : Bits := preamble16 ++ preamble16 ++ preamble16 ++ preamble16

/-- `MAX_LEN`, the largest LENGTH accepted on decode (R9, R207). -/
def maxLen : Nat := 50000000

/-- The frame of a payload (R201): `PREAMBLE ++ LENGTH ++ CRC32 ++ ENCODED_PAYLOAD`, LENGTH being the low 32 bits of the byte count,
which are all of it within the operation's domain (log entry 16). -/
def encodeFrame (payload : Bytes) (rate : Rate) : Bits :=
  preamble ++ u32ToBits (BitVec.ofNat 32 payload.length) ++ u32ToBits (crc32 payload) ++ fecEncode rate (bytesToBits payload)

/-- `decodeFrame` (R205): one deterministic attempt whose checks are made in the order of R216. `start` is the index of the first
LENGTH bit. -/
def decodeFrame (bits : Bits) (start : Nat) (rate : Rate) : Except MissCode Bytes :=
  -- R206
  if bits.length < start + 64 then .error .shortHeader else
  -- R207
  let len := (bitsToU32 (memRead bits start 32)).toNat
  if len = 0 ∨ maxLen < len then .error .lenRange else
  -- R208
  let crcRx := bitsToU32 (memRead bits (start + 32) 32)
  let pbl := 8 * len
  let n := encLen pbl rate
  -- R209
  if bits.length < start + 64 + n then .error .shortPayload else
  -- R210, R211
  let dec := fecDecode rate (memRead bits (start + 64) n)
  if dec.length < pbl then .error .shortFec else
  -- R212, R213
  let bytes := bitsToBytes (dec.take pbl)
  if bytes.length ≠ len then .error .byteCount else
  -- R214, R215
  if crc32 bytes ≠ crcRx then .error .crcMismatch else .ok bytes

/-- The response of `DECFRAME` (R101, R104): the payload, or `NONE` with the sub-code of the first check that failed. -/
def decodeFrameResponse : Except MissCode Bytes → Response
  | .ok payload => .ok (.bytes payload)
  | .error m => .notFound (some m)

/-- `ENCFRAME.r` (R201): a payload of 2^32 bytes or more is outside the domain (R106, R202). -/
def execEncframe (rate : Rate) (s : State) : Host.Outcome State Fault Refusal :=
  if s.operands.bytes.length ≤ maxPayload then
    sequenceCommand s s.operands.bytes.length (.ok (.bits (encodeFrame s.operands.bytes rate)))
  else badOperand s

/-- `DECFRAME.r` (R205). -/
def execDecframe (rate : Rate) (s : State) : Host.Outcome State Fault Refusal :=
  sequenceCommand s s.operands.bits.length (decodeFrameResponse (decodeFrame s.operands.bits s.operands.start rate))

end Sys2Proof.Machine
end

