-- ==== Sys2Proof/Machine/Session.lean ====
section
/-! DEFINITION. The session commands of the host (spec/45_session_controller.md rules R260, R261, R278, R279): `SSTART`, `SSTOP`,
`SSNAP`. -/

namespace Sys2Proof.Machine

/-- A session is live: `S` is not `IDLE` and not `STOPPED`, the test of R260. -/
def State.live (s : State) : Bool := decide (s.record.fsm ≠ .idle) && decide (s.record.fsm ≠ .stopped)

/-- The session reset (R261) of the record; `S` is not changed by it. -/
def SessionRecord.sessionReset (r : SessionRecord) : SessionRecord :=
  { r with running := true, framesTx := 0, reads := 0, decodes := 0, snrHist := [], rxBufSize := 0, frameSamples := 0,
           failReason := .none }

/-- The latching of an accepted record (R260) with the session reset (R261), after which the worker stands at rule R262.
DEDUCED (log entry 4): a session accepted before that still waits for R262 is replaced, with no call and no report of its own. -/
def State.startSession (s : State) (r : StartRecord) : State :=
  { s with
    params := r.params
    buffers := { payload := r.bytes, payloadName := r.displayName, payloadKind := r.kind, frame := [], result := [],
                 resultValid := false }
    record := s.record.sessionReset
    worker := .configure }

/-- The copy `SSNAP` returns (R279). -/
def State.snapshot (s : State) : Snapshot :=
  { record := s.record, resultValid := s.buffers.resultValid, result := s.buffers.result, payloadName := s.buffers.payloadName,
    payloadKind := s.buffers.payloadKind }

/-- `SSTART` (R260): `BUSY` before validation, validation before anything is written (R321). -/
def execSstart (s : State) : Host.Outcome State Fault Refusal :=
  if s.live then answer s (.refusal .busy)
  else if s.operands.record.valid then answer (s.startSession s.operands.record) (.ok .none)
  else answer (s.emit [.notify (.onFailed .configError)]) (.refusal .configError)

/-- `SSTOP` (R278), in every state. DEDUCED (log entry 26): between an accepted `SSTART` and R262, while `S` still reads `IDLE` or
`STOPPED`, it clears the new session's `RUNNING` too. -/
def execSstop (s : State) : Host.Outcome State Fault Refusal := answer s.clearRunning (.ok .none)

/-- `SSNAP` (R279). -/
def execSsnap (s : State) : Host.Outcome State Fault Refusal := answer s (.ok (.snapshot s.snapshot))

end Sys2Proof.Machine
end

