-- ==== Sys2Proof/Machine/Sync.lean ====
section
/-! DEFINITION. The Synchronizer (spec/44_synchronizer.md): `FINDPRE`, the bounded scan for the best preamble alignment by Hamming
similarity. -/

namespace Sys2Proof.Machine

/-- `MAX_SCAN`, the most offsets scanned (R9, R232). -/
def maxScan : Nat := 30000

/-- The match count that stops the scan: at most 2 mismatches (R9, R235). -/
def earlyExitCount : Nat := 62

/-- The match count that is accepted: at most 6 mismatches (R9, R236). -/
def acceptCount : Nat := 58

/-- Positions at which two sequences agree, up to the end of the shorter. -/
def agreements (a b : Bits) : Nat := (List.zipWith (fun x y => x == y) a b).count true

/-- `CNT` (R234): the match count of the 64 bits at the head of the window. -/
def matchCount (window : Bits) : Nat := agreements window preamble

/-- The best-so-far accumulator (R233): `BEST_CNT`, -1 while no offset was scanned, and `BEST_OFF`, which means nothing until then. -/
structure Best where
  count  : Int
  offset : Nat
  deriving DecidableEq, Repr

/-- Nothing scanned yet (R233). -/
def Best.unset : Best := { count := -1, offset := 0 }

/-- The update of one offset: only a strictly greater count replaces the best (R233). -/
def Best.update (best : Best) (count offset : Nat) : Best :=
  if best.count < count then { count := count, offset := offset } else best

/-- How many offsets a full scan of `n` bits visits (R232). -/
def scanLength (n margin : Nat) : Nat := min maxScan (n - (127 + margin))

/-- The scan loop (R231, R235): at most this many offsets from `off` on, the window standing at `off`; it stops after the offset
whose count reaches 62. -/
def scan : Nat → Bits → Nat → Best → Best
  | 0, _, _, best => best
  | k + 1, window, off, best =>
    let cnt := matchCount window
    let best := best.update cnt off
    if earlyExitCount ≤ cnt then best else scan k (window.drop 1) (off + 1) best

/-- `findPreamble` (R231, R236). -/
def findPreamble (margin : Nat) (bits : Bits) : Option Nat :=
  let best := scan (scanLength bits.length margin) bits 0 Best.unset
  if (acceptCount : Int) ≤ best.count then some best.offset else none

/-- The response of `FINDPRE` (R101): an index, or `NONE` without a sub-code. -/
def findPreambleResponse : Option Nat → Response
  | some off => .ok (.index off)
  | none => .notFound none

/-- `FINDPRE` (R231). -/
def execFindpre (s : State) : Host.Outcome State Fault Refusal :=
  sequenceCommand s s.operands.bits.length (findPreambleResponse (findPreamble s.config.syncMargin s.operands.bits))

end Sys2Proof.Machine
end

