-- ==== Sys2Proof/Machine/Dispatch.lean ====
section
/-! DEFINITION. One arm per operation of spec/opcode_table.json. -/

namespace Sys2Proof.Machine

def exec (i : Instr) (s : State) : Host.Outcome State Fault Refusal :=
  match i with
  | .b2bits => Sys2Proof.Machine.execB2bits s
  | .bits2b => Sys2Proof.Machine.execBits2b s
  | .u32bits => Sys2Proof.Machine.execU32bits s
  | .bitsu32 => Sys2Proof.Machine.execBitsu32 s
  | .crc32 => Sys2Proof.Machine.execCrc32 s
  | .fecenc12 => Sys2Proof.Machine.execFecenc12 s
  | .fecenc13 => Sys2Proof.Machine.execFecenc13 s
  | .fecenc23 => Sys2Proof.Machine.execFecenc23 s
  | .fecenc34 => Sys2Proof.Machine.execFecenc34 s
  | .fecdec12 => Sys2Proof.Machine.execFecdec12 s
  | .fecdec13 => Sys2Proof.Machine.execFecdec13 s
  | .fecdec23 => Sys2Proof.Machine.execFecdec23 s
  | .fecdec34 => Sys2Proof.Machine.execFecdec34 s
  | .encframe rate => Sys2Proof.Machine.execEncframe rate s
  | .decframe rate => Sys2Proof.Machine.execDecframe rate s
  | .findpre => Sys2Proof.Machine.execFindpre s
  | .sstart => Sys2Proof.Machine.execSstart s
  | .sstop => Sys2Proof.Machine.execSstop s
  | .ssnap => Sys2Proof.Machine.execSsnap s

end Sys2Proof.Machine
end

