-- ==== Sys2Proof/Machine/Boundary.lean ====
section
/-! DEFINITION. The boundary functions between bits and samples (spec/45_session_controller.md rules R280 to R282), and the receive
window (R264). -/

namespace Sys2Proof.Machine

/-- The symbol of one bit (R280): bit 1 at the positive level, bit 0 at the negative, the imaginary part 0. -/
def symbol (amplitude : Nat) (b : Bool) : Sample := { re := if b then (amplitude : Rat) else -(amplitude : Rat), im := 0 }

/-- The mapper `map(frame, sps)` (R280). -/
def mapFrame (amplitude : Nat) (frame : Bits) (sps : Nat) : List Sample :=
  frame.flatMap fun b => List.replicate sps (symbol amplitude b)

/-- The sum of some numbers. -/
def total (xs : List Rat) : Rat := xs.foldl (fun acc x => acc + x) 0

/-- The mean of some numbers. -/
def mean (xs : List Rat) : Rat := total xs / (xs.length : Rat)

/-- One window of the detector (R282): the bit is 1 exactly when the mean of the real parts is above 0. -/
def detectWindow (sps : Nat) (window : List Sample) : Bool := decide (0 < total (window.map Sample.re) / (sps : Rat))

/-- The first `k` windows of `sps` samples, from the first sample on (R68, R282). -/
def detectWindows : Nat → Nat → List Sample → Bits
  | 0, _, _ => []
  | k + 1, sps, buf => detectWindow sps (buf.take sps) :: detectWindows k sps (buf.drop sps)

/-- The detector `detect(buf, sps)` (R282): a remainder shorter than a window is dropped. -/
def detect (buf : List Sample) (sps : Nat) : Bits := detectWindows (buf.length / sps) sps buf

/-- `mean(|sample|^2)` of a buffer (R281). -/
def meanPower (buf : List Sample) : Rat := mean (buf.map fun x => x.re * x.re + x.im * x.im)

/-- The population variance of the imaginary parts of a buffer (R281). -/
def imagVariance (buf : List Sample) : Rat :=
  let m := mean (buf.map Sample.im)
  mean (buf.map fun x => (x.im - m) * (x.im - m))

/-- `estimateSnr(buf)` (R281). Of a buffer of mean power 0 the logarithm has no finite value: a free value, for the draw with this
number (U9, log entry 10). -/
def estimateSnr (draw : Nat) (buf : List Sample) : Snr :=
  if meanPower buf = 0 then .unstated draw else .tenLog10 (meanPower buf) (imagVariance buf)

/-- The real number in decibels that an estimate stands for (R281), for a value of `SNR_EPS` (R10: any positive real). -/
noncomputable def Snr.decibels (snrEps : ℝ) : Snr → ℝ
  | .tenLog10 power variance => 10 * Real.logb 10 ((power : ℝ) / ((variance : ℝ) + snrEps))
  | .unstated draw => Config.silentSnr draw

/-- How many free values `estimateSnr` draws. -/
def snrDraws (buf : List Sample) : Nat := if meanPower buf = 0 then 1 else 0

/-- `RXWIN_MIN` (R9). -/
def rxWindowMin : Nat := 262144

/-- `RXWIN_MAX` (R9). -/
def rxWindowMax : Nat := 2097152

/-- The receive window of a frame of this many samples (R264): `clamp(floor(5 × FRAME_SAMPLES / 4), RXWIN_MIN, RXWIN_MAX)`. -/
def receiveWindow (frameSamples : Nat) : Nat := min (max (5 * frameSamples / 4) rxWindowMin) rxWindowMax

end Sys2Proof.Machine
end

