-- ==== Sys2Proof/Machine/Worker.lean ====
section
/-! DEFINITION. The session worker (spec/45_session_controller.md rules R262 to R276): one definition per worker step. The answers
of the Radio Device to the step's calls are arguments (R254, R259). -/

namespace Sys2Proof.Machine

/-- The call returned (R254). -/
def RadioAnswer.succeeded : RadioAnswer → Bool
  | .failed => false
  | .returned _ => true

/-- A device call that decides how the session goes on (R254, R315): when it fails the session enters `FAILED` with `DEVICE_ERROR`. -/
def State.callOrFail (s : State) (c : RadioCall) (a : RadioAnswer) (onReturn : State → State) : State :=
  if a.succeeded then onReturn (s.radioCall c a) else (s.radioCall c a).enterFailed .deviceError

/-- Worker step `configure` (R262). -/
def workerConfigure (a : RadioAnswer) (s : State) : State :=
  let p := s.params
  s.callOrFail (.configure p.radioAddr p.txFreq p.rxFreq p.sampleRate p.txGain p.rxGain true) a fun t =>
    { t with record := { t.record with fsm := .configured }, worker := .build }

/-- Worker step `build` (R263). `encodeFrame` cannot refuse: R260 bounded the payload. -/
def workerBuild (s : State) : State :=
  let frame := encodeFrame s.buffers.payload s.params.rate
  { s with
    buffers := { s.buffers with frame := frame }
    record := { s.record with frameSamples := BitVec.ofNat 64 (frame.length * s.params.sps.toNat) }
    worker := .size }

/-- Worker step `size` (R264, R266): `RXBUF_SIZE` is set before the call. -/
def workerSize (a : RadioAnswer) (s : State) : State :=
  let size := BitVec.ofNat 22 (receiveWindow s.record.frameSamples.toNat)
  let t := { s with record := { s.record with rxBufSize := size } }
  t.callOrFail (.setReceiveBufferSize size) a fun t => { t with worker := .transmit }

/-- The waveform of the session's frame (R263, R280); it is computed where it is sent (log entry 17). -/
def State.wave (s : State) : List Sample := mapFrame s.config.txAmplitude s.buffers.frame s.params.sps.toNat

/-- Worker step `transmit` (R265, R266). -/
def workerTransmit (a : RadioAnswer) (s : State) : State :=
  s.callOrFail (.transmit s.wave) a fun t =>
    { t with record := { t.record with framesTx := t.record.framesTx + 1, fsm := .transmitting }, worker := .settle }

/-- Worker step `settle` (R267): the model has no time, so the step is enabled at once. -/
def workerSettle (s : State) : State :=
  { s with record := { s.record with fsm := .listening }, worker := .poll }

/-- Worker step `poll` (R270): the cancel test comes before the budget test. -/
def workerPoll (s : State) : State :=
  if s.record.running = false then s.enterFailed .cancelled
  else if s.params.maxReads.toNat ≤ s.record.reads.toNat then s.enterFailed .budgetExhausted
  else { s with worker := .receive }

/-- A sample of value 0. -/
def Sample.zero : Sample := { re := 0, im := 0 }

/-- The buffer of exactly `size` samples that an answer to `receive` carries (R71, R253). -/
def RadioAnswer.buffer (size : Nat) : RadioAnswer → List Sample
  | .failed => []
  | .returned samples => samples.takeD size Sample.zero

/-- Worker step `receive` (R271): one buffer of `RXBUF_SIZE` samples; a failed call counts no read. -/
def workerReceive (a : RadioAnswer) (s : State) : State :=
  s.callOrFail .receive a fun t =>
    { t with record := { t.record with reads := t.record.reads + 1 }, rxBuffer := a.buffer t.record.rxBufSize.toNat, worker := .diagnose }

/-- Worker step `diagnose` (R272): the SNR estimate into the history, then `onStats`. -/
def workerDiagnose (s : State) : State :=
  let snr := estimateSnr s.draws s.rxBuffer
  let t := { s with
    record := { s.record with snrHist := snrAppend s.config.snrHistCap s.record.snrHist snr }
    draws := s.draws + snrDraws s.rxBuffer
    worker := .attempt }
  t.emit [.notify (.onStats snr s.record.reads s.record.rxBufSize s.record.frameSamples)]

/-- One receive attempt on a bit sequence, the pseudo-operation `RXTRY` (R110, R273): one offset, one decode. -/
def receiveAttempt (margin : Nat) (rate : Rate) (bits : Bits) : Option Bytes :=
  match findPreamble margin bits with
  | none => none
  | some off => match decodeFrame bits (off + 64) rate with
    | .error _ => none
    | .ok payload => some payload

/-- Worker step `attempt` (R273); on a miss the loop goes back to the poll point with nothing else changed (R274). -/
def workerAttempt (s : State) : State :=
  match receiveAttempt s.config.syncMargin s.params.rate (detect s.rxBuffer s.params.sps.toNat) with
  | none => { s with rxBuffer := [], worker := .poll }
  | some payload =>
    { s with
      buffers := { s.buffers with result := payload, resultValid := true }
      record := { s.record with decodes := s.record.decodes + 1, fsm := .decoded }
      rxBuffer := []
      worker := .finish }

/-- Worker step `finish` (R276). -/
def workerFinish (releaseTx releaseRx : RadioAnswer) (s : State) : State := s.leaveSession releaseTx releaseRx

/-- The worker's next step, with the Radio Device's answers to its first and second call. A resting worker has none (R277). -/
def workerStep (first second : RadioAnswer) (s : State) : State :=
  match s.worker with
  | .resting   => s
  | .configure => workerConfigure first s
  | .build     => workerBuild s
  | .size      => workerSize first s
  | .transmit  => workerTransmit first s
  | .settle    => workerSettle s
  | .poll      => workerPoll s
  | .receive   => workerReceive first s
  | .diagnose  => workerDiagnose s
  | .attempt   => workerAttempt s
  | .finish    => workerFinish first second s

end Sys2Proof.Machine
end

