-- ==== Sys2Proof/Machine/Step.lean ====
section
/-! DEFINITION. One step of the whole: the next move of the agents outside (spec/20_memory.md rules R74 to R77), which is a command
of the host or a turn of the session worker. -/

namespace Sys2Proof.Machine

/-- The next move. Where no agent moves, nothing happens: "the block does nothing until a command arrives" (R350). A command word
that selects no operation is answered `ILLEGAL_CMD` (R105). -/
def step (s : State) : Host.Outcome State Fault Refusal :=
  match s.inputs with
  | [] => .next s
  | .worker first second :: rest => .next (workerStep first second { s with inputs := rest })
  | .command w operands :: rest =>
    match fetchCommand w with
    | .ok i => exec i (s.acceptCommand operands rest)
    | .error _ => illegalCommand (s.acceptCommand operands rest)

/-- The command whose word is the low `nbits` bits of `w` becomes the host's next move, with the operands that stand at the operand
port; the moves that were listed follow it. -/
def State.withFetchWord (s : State) (nbits w : Nat) : State := s.presentCommand (commandWord nbits w)

end Sys2Proof.Machine
end

