-- ==== Sys2Proof/Safety.lean ====
section
/-! DEFINITION. The terms in which claims about the block are stated: an answered command, operands in the domain, the invariant of a
session (spec/45_session_controller.md rules R269, R275; spec/60_exceptions.md rule R328), the allowed changes of `S` (R251), Hamming
similarity at an offset (R234), and what a stretch of the trace holds. -/

namespace Sys2Proof.Machine

/-! ### Commands -/

/-- The state that differs from `s` only by a response at the end of the trace. -/
def State.answered (s : State) (r : Response) : State := { s with trace := s.trace ++ [.response r] }

/-- A sequence of this length is within `MAX_SEQ` (R106). -/
def State.within (s : State) (n : Nat) : Prop := ∀ m, s.config.maxSeq = some m → n ≤ m

/-- The ten datapath operations of rule R2, at their rates: every operation but the three session commands. -/
def datapath : Instr → Bool
  | .sstart | .sstop | .ssnap => false
  | .b2bits | .bits2b | .u32bits | .bitsu32 | .crc32 | .findpre => true
  | .fecenc12 | .fecenc13 | .fecenc23 | .fecenc34 | .fecdec12 | .fecdec13 | .fecdec23 | .fecdec34 => true
  | .encframe _ | .decframe _ => true

/-- The length of the one sequence operand an operation reads, where it reads one (R101). -/
def sequenceLength (s : State) : Instr → Option Nat
  | .b2bits | .crc32 | .encframe _ => some s.operands.bytes.length
  | .bits2b | .bitsu32 | .decframe _ | .findpre => some s.operands.bits.length
  | .fecenc12 | .fecenc13 | .fecenc23 | .fecenc34 => some s.operands.bits.length
  | .fecdec12 | .fecdec13 | .fecdec23 | .fecdec34 => some s.operands.bits.length
  | .u32bits | .sstart | .sstop | .ssnap => none

/-! ### The synchronizer's scan -/

/-- The match count of R234 at an offset: the positions `j` in 0..63 at which the sequence agrees with `PREAMBLE`. -/
def similarity (bits : Bits) (off : Nat) : Nat := (List.range 64).countP fun j => decide (bits[off + j]? = preamble[j]?)

/-- The scan set of R232. -/
def inScanSet (margin : Nat) (bits : Bits) (off : Nat) : Prop := off < 30000 ∧ off + 128 + margin ≤ bits.length

/-! ### The session -/

/-- The values of `S` with which the worker can stand before each of its steps (R251, R259). -/
def phaseAgrees : WorkerStep → SessionState → Bool
  | .resting, f | .configure, f => f = .idle || f = .stopped
  | .build, f | .size, f | .transmit, f => f = .configured
  | .settle, f => f = .transmitting
  | .poll, f | .receive, f | .diagnose, f | .attempt, f => f = .listening
  | .finish, f => f = .decoded || f = .failed

/-- The steps before the receive loop: no read has been made. -/
def beforeLoop (w : WorkerStep) : Bool :=
  w = .configure || w = .build || w = .size || w = .transmit || w = .settle

/-- The steps before R265: nothing has been transmitted. -/
def beforeTransmit (w : WorkerStep) : Bool := w = .configure || w = .build || w = .size || w = .transmit

/-- The steps of the receive loop. -/
def inLoop (w : WorkerStep) : Bool := w = .poll || w = .receive || w = .diagnose || w = .attempt

/-- No outcome yet: the values the session reset leaves (R261). -/
def noOutcome (s : State) : Prop :=
  s.record.decodes = 0 ∧ s.buffers.resultValid = false ∧ s.buffers.result = [] ∧ s.record.failReason = .none

/-- A decode (R275, R328). -/
def hasSucceeded (s : State) : Prop :=
  s.record.decodes = 1 ∧ s.buffers.resultValid = true ∧ s.record.failReason = .none

/-- A failure (R275, R328). -/
def hasFailed (s : State) : Prop :=
  s.record.decodes = 0 ∧ s.buffers.resultValid = false ∧ s.buffers.result = [] ∧
    (s.record.failReason = .deviceError ∨ s.record.failReason = .budgetExhausted ∨ s.record.failReason = .cancelled)

/-- The reads that the SNR history already shows: all of them, but for the one between R271 and R272. -/
def diagnosedReads (s : State) : Nat := if s.worker = .diagnose then s.record.reads.toNat - 1 else s.record.reads.toNat

/-- What holds between any two steps of the block (R32, R37, R269, R275, R328). -/
structure SessionInv (s : State) : Prop where
  /-- the open parameters have admitted values (R10) -/
  parameters : s.config.wf = true
  /-- `S` and the worker's position belong together (R251) -/
  phase : phaseAgrees s.worker s.record.fsm = true
  /-- the parameters of a session that was accepted passed validation (R260) -/
  validated : s.worker ≠ .resting ∨ s.record.fsm = .stopped →
    s.params.sps ≠ 0 ∧ s.buffers.payloadKind ≠ .reserved ∧ s.buffers.payload.length ≤ maxPayload
  /-- `READS <= MAX_READS` (R32, R269) -/
  readBudget : s.record.reads.toNat ≤ s.params.maxReads.toNat
  /-- a read is begun only within the budget (R270) -/
  receiveBudget : s.worker = .receive → s.record.reads.toNat < s.params.maxReads.toNat
  /-- no read before the loop (R261) -/
  noEarlyRead : beforeLoop s.worker = true → s.record.reads = 0
  /-- a read under diagnosis was counted (R271) -/
  diagnosedRead : s.worker = .diagnose → 1 ≤ s.record.reads.toNat
  /-- the length of `SNR_HIST` (R269) -/
  history : s.record.snrHist.length = min (diagnosedReads s) s.config.snrHistCap
  /-- `FRAMES_TX <= 1` (R32) -/
  oneFrame : s.record.framesTx.toNat ≤ 1
  /-- nothing is counted as transmitted before R265 -/
  notYetSent : beforeTransmit s.worker = true → s.record.framesTx = 0
  /-- one frame is on the air while the session listens (R265) -/
  sent : s.worker = .settle ∨ inLoop s.worker = true ∨ s.record.fsm = .decoded → s.record.framesTx = 1
  /-- `RXBUF_SIZE` is 0 or within its limits (R37) -/
  window : s.record.rxBufSize = 0 ∨ (262144 ≤ s.record.rxBufSize.toNat ∧ s.record.rxBufSize.toNat ≤ 2097152)
  /-- the frame and its sample count, exact (R263, R137) -/
  frameBuilt : s.worker = .size ∨ s.worker = .transmit ∨ s.worker = .settle ∨ inLoop s.worker = true →
    s.buffers.frame = encodeFrame s.buffers.payload s.params.rate ∧
      s.record.frameSamples.toNat = s.buffers.frame.length * s.params.sps.toNat
  /-- the receive window (R264) -/
  sized : s.worker = .transmit ∨ s.worker = .settle ∨ inLoop s.worker = true →
    s.record.rxBufSize.toNat = receiveWindow s.record.frameSamples.toNat
  /-- a Radio Device whose `configure` returned is configured (R39, R262) -/
  deviceConfigured : s.record.fsm ≠ .idle → s.record.fsm ≠ .failed → s.record.fsm ≠ .stopped → s.radio.configured = true
  /-- the device's receive size is the window (R39, R264) -/
  deviceSized : s.worker = .transmit ∨ s.worker = .settle ∨ inLoop s.worker = true → s.radio.rxSize = s.record.rxBufSize
  /-- once armed, the waveform is replayed until the release: no other call ends it (R39, R265) -/
  replaying : s.worker ≠ .resting → s.record.framesTx = 1 → s.radio.txArmed = true
  /-- a received buffer has exactly `RXBUF_SIZE` samples (R61, R71, R253) -/
  bufferSize : s.worker = .diagnose ∨ s.worker = .attempt → s.rxBuffer.length = s.record.rxBufSize.toNat
  /-- a received buffer is held only until R273 has processed it: no bits are carried over (R273) -/
  nothingCarriedOver : s.worker ≠ .diagnose → s.worker ≠ .attempt → s.rxBuffer = []
  /-- no outcome before the way out -/
  undecided : s.worker ≠ .resting → s.worker ≠ .finish → noOutcome s
  /-- no outcome before the first session (R41) -/
  fresh : s.worker = .resting → s.record.fsm = .idle → noOutcome s
  /-- `DECODED` (R275) -/
  decodedState : s.record.fsm = .decoded → hasSucceeded s
  /-- `FAILED` (R275) -/
  failedState : s.record.fsm = .failed → hasFailed s
  /-- `STOPPED` with no new session begun (R328) -/
  stoppedState : s.worker = .resting → s.record.fsm = .stopped → hasSucceeded s ∨ hasFailed s
  /-- no session, no running flag (R276, R328) -/
  restingFlag : s.worker = .resting → s.record.running = false

/-- The changes of `S` that rule R251 allows. -/
def allowedChange : SessionState → SessionState → Bool
  | .idle, .configured | .stopped, .configured => true
  | .idle, .failed | .stopped, .failed => true
  | .configured, .transmitting | .configured, .failed => true
  | .transmitting, .listening => true
  | .listening, .decoded | .listening, .failed => true
  | .decoded, .stopped | .failed, .stopped => true
  | _, _ => false

/-! ### Stretches of moves and of the trace -/

/-- A turn of the session worker. -/
def isWorkerTurn : Input → Bool
  | .worker _ _ => true
  | .command _ _ => false

/-- No `SSTART` is presented before the worker's next turn: an accepted one would replace a session that waits for R262 (log
entry 4). -/
def noStartBeforeTurn : List Input → Bool
  | [] => true
  | .worker _ _ :: _ => true
  | .command w _ :: rest =>
    match decodeWord w with
    | .ok .sstart => false
    | _ => noStartBeforeTurn rest

/-- The final report of a session (R276). `CONFIG_ERROR` is the report of a refused `SSTART` (R260), never that of a session (R36). -/
def isOutcomeReport : Output → Bool
  | .notify (.onDecoded _ _ _) => true
  | .notify (.onFailed reason) => decide (reason ≠ .configError)
  | _ => false

/-- The report of one read (R272). -/
def isReadReport : Output → Bool
  | .notify (.onStats _ _ _ _) => true
  | _ => false

/-- A call of `configure` (R262). -/
def isConfigureCall : Output → Bool
  | .call (.configure _ _ _ _ _ _ _) _ => true
  | _ => false

/-- A call of `transmit` (R265). -/
def isTransmitCall : Output → Bool
  | .call (.transmit _) _ => true
  | _ => false

/-- A call of `receive` (R271). -/
def isReceiveCall : Output → Bool
  | .call .receive _ => true
  | _ => false

/-- A call of `receive` that returned (R271). -/
def isReceivedBuffer : Output → Bool
  | .call .receive true => true
  | _ => false

/-- A call of `releaseTransmitBuffer` (R276). -/
def isTransmitRelease : Output → Bool
  | .call .releaseTransmitBuffer _ => true
  | _ => false

/-- A call of `releaseReceiveBuffer` (R276). -/
def isReceiveRelease : Output → Bool
  | .call .releaseReceiveBuffer _ => true
  | _ => false

end Sys2Proof.Machine
end

