-- ==== Sys2Proof/Certificates/Slice0/Obligations.lean ====
section
/-! DEFINITION. The statements for the provers. `s.answered r` is `s` with the response `r` at the end of its trace and nothing else
changed, so an equation with it is also the operation's frame. -/

open Sys2Proof Sys2Proof.Machine

/-! ### The command word -/

/-- R102: the opcode map. Every listed word selects its operation, no word with a reserved `OP` selects one, and 25 of the 256 words
are legal. -/
def Obligations.CommandWordMap : Prop :=
  (∀ p ∈ ([(0x00, .b2bits), (0x10, .bits2b), (0x20, .u32bits), (0x30, .bitsu32), (0x40, .crc32),
      (0x50, .fecenc12), (0x51, .fecenc13), (0x52, .fecenc23), (0x53, .fecenc34),
      (0x60, .fecdec12), (0x61, .fecdec13), (0x62, .fecdec23), (0x63, .fecdec34),
      (0x70, .encframe .r12), (0x71, .encframe .r13), (0x72, .encframe .r23), (0x73, .encframe .r34),
      (0x80, .decframe .r12), (0x81, .decframe .r13), (0x82, .decframe .r23), (0x83, .decframe .r34),
      (0x90, .findpre), (0xA0, .sstart), (0xB0, .sstop), (0xC0, .ssnap)] : List (Byte × Instr)),
    decodeWord p.1 = .ok p.2) ∧
  (∀ (w : Byte) (i : Instr), 0xD ≤ w.toNat / 16 → decodeWord w ≠ .ok i) ∧
  (List.range 256).countP (fun n => (decodeWord (BitVec.ofNat 8 n)).isOk) = 25

/-- R105: which words are illegal, and what presenting one does. -/
def Obligations.IllegalWordAnswered : Prop :=
  (∀ w : Byte, (0xD ≤ w.toNat / 16 ∨ w.toNat / 4 % 4 ≠ 0 ∨ (w.toNat % 4 ≠ 0 ∧ (w.toNat / 16 < 5 ∨ 8 < w.toNat / 16))) ↔
    ¬ ∃ i, decodeWord w = .ok i) ∧
  (∀ (s : State) (w : Byte) (operands : Operands) (rest : List Input),
    s.inputs = .command w operands :: rest → (¬ ∃ i, decodeWord w = .ok i) →
    step s = .next (State.answered { s with operands := operands, inputs := rest } ⟨.illegalCmd, none, .none⟩)) ∧
  (List.range 256).countP (fun n => !(decodeWord (BitVec.ofNat 8 n)).isOk) = 231

/-- Decode and encode agree on streams of commands, in both directions: no bit of a word is dropped and no two words share a
meaning. -/
def Obligations.DecodeEncodeAgree : Prop :=
  (∀ is : List Instr, decodeAll (is.flatMap encode) = .ok is) ∧
  (∀ (ws : Bytes) (is : List Instr), decodeAll ws = .ok is → ws = is.flatMap encode)

/-- A step at which the host presents a legal command word runs the decoded operation, with its operands at the operand port; so the
command that `withFetchWord` presents is the one the very next step runs.
The list of moves is the model's form (log entries 8 and 14). -/
def Obligations.StepRunsDecodedCommand : Prop :=
  (∀ (s : State) (w : Byte) (operands : Operands) (rest : List Input) (i : Instr),
    s.inputs = .command w operands :: rest → decode [w] = .ok (i, []) →
    step s = exec i { s with operands := operands, inputs := rest }) ∧
  (∀ (s : State) (w : Nat) (i : Instr), decodeTableWord 8 w = some i → step (s.withFetchWord 8 w) = exec i s)

/-- Where no agent moves nothing happens (R350); a turn of the worker is its next step (R259); where no worker step is enabled, a turn
changes nothing but the list of moves (R277), so `RESULT` and the parameters stay until the next accepted `SSTART` (R33, R34).
The list of moves is the model's form (log entries 8 and 14). -/
def Obligations.StepTakesNextMove : Prop :=
  (∀ s : State, s.inputs = [] → step s = .next s) ∧
  (∀ (s : State) (a b : RadioAnswer) (rest : List Input),
    s.inputs = .worker a b :: rest → step s = .next (workerStep a b { s with inputs := rest })) ∧
  (∀ (s : State) (a b : RadioAnswer) (rest : List Input),
    s.inputs = .worker a b :: rest → s.worker = .resting → step s = .next { s with inputs := rest })

/-- The numeric codes of `S` (R28), `FAIL_REASON` (R36), payload kinds (R34), statuses (R103), sub-codes (R104) and rates (R97). -/
def Obligations.NumericCodes : Prop :=
  [SessionState.idle, .configured, .transmitting, .listening, .decoded, .failed, .stopped].map SessionState.code
    = [0, 1, 2, 3, 4, 5, 6] ∧
  [FailReason.none, .configError, .deviceError, .budgetExhausted, .cancelled].map FailReason.code = [0, 1, 2, 3, 4] ∧
  [PayloadKind.text, .file, .wav, .reserved].map PayloadKind.code = [0, 1, 2, 3] ∧
  [Status.ok, .none, .illegalCmd, .badOperand, .busy, .configError].map Status.code = [0, 1, 2, 3, 4, 5] ∧
  [MissCode.shortHeader, .lenRange, .shortPayload, .shortFec, .byteCount, .crcMismatch].map MissCode.code = [1, 2, 3, 4, 5, 6] ∧
  [Rate.r12, .r13, .r23, .r34].map Rate.code = [0, 1, 2, 3]

/-- R106: the operand domains.
That `MAX_SEQ` bounds the sequence operands of the datapath commands only is the model's reading (log entry 23). -/
def Obligations.OperandDomains : Prop :=
  (∀ (i : Instr) (s : State) (n m : Nat), sequenceLength s i = some n → s.config.maxSeq = some m → m < n →
    exec i s = .next (s.answered ⟨.badOperand, none, .none⟩)) ∧
  (∀ s : State, s.operands.bits.length ≠ 32 → exec .bitsu32 s = .next (s.answered ⟨.badOperand, none, .none⟩)) ∧
  (∀ (r : Rate) (s : State), 2 ^ 32 - 1 < s.operands.bytes.length →
    exec (.encframe r) s = .next (s.answered ⟨.badOperand, none, .none⟩)) ∧
  (∀ (r : Rate) (s : State), s.within s.operands.bits.length → s.operands.bits.length ≤ s.operands.start →
    exec (.decframe r) s = .next (s.answered ⟨.none, some .shortHeader, .none⟩)) ∧
  (∀ (i : Instr) (s : State) (n : Nat), sequenceLength s i = some n → s.within n →
    (i = .bitsu32 → n = 32) → ((∃ r, i = .encframe r) → n ≤ 2 ^ 32 - 1) →
    exec i s ≠ .next (s.answered ⟨.badOperand, none, .none⟩))

/-! ### The Bit/Byte Codec -/

/-- R131: `B2BITS`. -/
def Obligations.BytesToBitsResult : Prop :=
  decodeWord 0x00 = .ok .b2bits ∧
  ∀ s : State, s.within s.operands.bytes.length →
    ∃ out : Bits, exec .b2bits s = .next (s.answered ⟨.ok, none, .bits out⟩) ∧
      out.length = 8 * s.operands.bytes.length ∧
      ∀ (k j : Nat) (hk : k < s.operands.bytes.length), j < 8 →
        out[8 * k + j]? = some ((s.operands.bytes[k]'hk).getLsbD (7 - j))

/-- R132: `BITS2B`. -/
def Obligations.BitsToBytesResult : Prop :=
  decodeWord 0x10 = .ok .bits2b ∧
  ∀ s : State, s.within s.operands.bits.length →
    ∃ out : Bytes, exec .bits2b s = .next (s.answered ⟨.ok, none, .bytes out⟩) ∧
      out.length = s.operands.bits.length / 8 ∧
      ∀ (k j : Nat) (hk : k < out.length), j < 8 → s.operands.bits[8 * k + j]? = some ((out[k]'hk).getLsbD (7 - j))

/-- R133: `U32BITS`. -/
def Obligations.U32ToBitsResult : Prop :=
  decodeWord 0x20 = .ok .u32bits ∧
  ∀ s : State, ∃ out : Bits, exec .u32bits s = .next (s.answered ⟨.ok, none, .bits out⟩) ∧
    out.length = 32 ∧ ∀ j, j < 32 → out[j]? = some (s.operands.word.getLsbD (31 - j))

/-- R134: `BITSU32`. -/
def Obligations.BitsToU32Result : Prop :=
  decodeWord 0x30 = .ok .bitsu32 ∧
  (∀ s : State, s.operands.bits.length ≠ 32 → exec .bitsu32 s = .next (s.answered ⟨.badOperand, none, .none⟩)) ∧
  ∀ s : State, s.operands.bits.length = 32 → s.within 32 →
    ∃ x : U32, exec .bitsu32 s = .next (s.answered ⟨.ok, none, .word x⟩) ∧
      x.toNat = ((List.range 32).map fun j => (if s.operands.bits[j]? = some true then 1 else 0) * 2 ^ (31 - j)).sum

/-- R135: the round-trip laws of the codec. -/
def Obligations.CodecRoundTrips : Prop :=
  (∀ x : U32, bitsToU32 (u32ToBits x) = x) ∧
  (∀ b : Bytes, bitsToBytes (bytesToBits b) = b) ∧
  (∀ b : Bits, b.length = 32 → u32ToBits (bitsToU32 b) = b) ∧
  (∀ b : Bits, bytesToBits (bitsToBytes b) = b.take (8 * (b.length / 8))) ∧
  (∀ b : Bits, bytesToBits (bitsToBytes b) = b ↔ b.length % 8 = 0)

/-- R136: the length and concatenation laws of the codec. -/
def Obligations.CodecLengthsAndConcatenation : Prop :=
  (∀ b : Bytes, (bytesToBits b).length = 8 * b.length) ∧
  (∀ b : Bits, (bitsToBytes b).length = b.length / 8) ∧
  (∀ x : U32, (u32ToBits x).length = 32) ∧
  (∀ a b : Bytes, bytesToBits (a ++ b) = bytesToBits a ++ bytesToBits b) ∧
  (∀ a b : Bits, a.length % 8 = 0 → bitsToBytes (a ++ b) = bitsToBytes a ++ bitsToBytes b)

/-! ### The CRC Engine -/

/-- R152 with R153 and R154: `CRC32` answers the value of rule R152's loop, which is that of the shift register and that of the
table. -/
def Obligations.Crc32ResultInThreeViews : Prop :=
  decodeWord 0x40 = .ok .crc32 ∧
  ∀ s : State, s.within s.operands.bytes.length →
    ∃ x : U32, exec .crc32 s = .next (s.answered ⟨.ok, none, .word x⟩) ∧
      x = s.operands.bytes.foldl (fun acc b => Nat.repeat
        (fun a : U32 => if a.getLsbD 0 then (a >>> 1) ^^^ 0xEDB88320 else a >>> 1) 8 (acc ^^^ b.setWidth 32)) 0xFFFFFFFF
        ^^^ 0xFFFFFFFF ∧
      x = crc32Serial s.operands.bytes ∧ x = crc32Table s.operands.bytes

/-- R156: two inputs of equal length that differ in exactly one bit have different CRC-32 values. -/
def Obligations.Crc32DetectsSingleBitErrors : Prop :=
  ∀ a b : Bytes, a.length = b.length →
    (List.zipWith (fun x y => x != y) (bytesToBits a) (bytesToBits b)).count true = 1 → crc32 a ≠ crc32 b

/-! ### The FEC Codec -/

/-- R168: `FECENC.12`. -/
def Obligations.FecEncode12Result : Prop :=
  decodeWord 0x50 = .ok .fecenc12 ∧
  ∀ s : State, s.within s.operands.bits.length →
    ∃ out : Bits, exec .fecenc12 s = .next (s.answered ⟨.ok, none, .bits out⟩) ∧
      out.length = 2 * s.operands.bits.length ∧
      ∀ i, out[2 * i]? = s.operands.bits[i]? ∧ out[2 * i + 1]? = s.operands.bits[i]?

/-- R169: `FECENC.13`. -/
def Obligations.FecEncode13Result : Prop :=
  decodeWord 0x51 = .ok .fecenc13 ∧
  ∀ s : State, s.within s.operands.bits.length →
    ∃ out : Bits, exec .fecenc13 s = .next (s.answered ⟨.ok, none, .bits out⟩) ∧
      out.length = 3 * s.operands.bits.length ∧
      ∀ i, out[3 * i]? = s.operands.bits[i]? ∧ out[3 * i + 1]? = s.operands.bits[i]? ∧ out[3 * i + 2]? = s.operands.bits[i]?

/-- R171, R172: `FECENC.23`, full pairs and an odd last bit. -/
def Obligations.FecEncode23Result : Prop :=
  decodeWord 0x52 = .ok .fecenc23 ∧
  ∀ s : State, s.within s.operands.bits.length →
    ∃ out : Bits, exec .fecenc23 s = .next (s.answered ⟨.ok, none, .bits out⟩) ∧
      out.length = 3 * ((s.operands.bits.length + 1) / 2) ∧
      (∀ k b0 b1, s.operands.bits[2 * k]? = some b0 → s.operands.bits[2 * k + 1]? = some b1 →
        out[3 * k]? = some b0 ∧ out[3 * k + 1]? = some b1 ∧ out[3 * k + 2]? = some (b0 ^^ b1)) ∧
      (∀ k b, s.operands.bits.length = 2 * k + 1 → s.operands.bits[2 * k]? = some b →
        out[3 * k]? = some b ∧ out[3 * k + 1]? = some false ∧ out[3 * k + 2]? = some b)

/-- R173, R174: `FECENC.34`, full triples and a tail of 1 or 2 bits, for which no parity is computed. -/
def Obligations.FecEncode34Result : Prop :=
  decodeWord 0x53 = .ok .fecenc34 ∧
  ∀ s : State, s.within s.operands.bits.length →
    ∃ out : Bits, exec .fecenc34 s = .next (s.answered ⟨.ok, none, .bits out⟩) ∧
      out.length = 4 * ((s.operands.bits.length + 2) / 3) ∧
      (∀ k b0 b1 b2, s.operands.bits[3 * k]? = some b0 → s.operands.bits[3 * k + 1]? = some b1 →
        s.operands.bits[3 * k + 2]? = some b2 →
        out[4 * k]? = some b0 ∧ out[4 * k + 1]? = some b1 ∧ out[4 * k + 2]? = some b2 ∧ out[4 * k + 3]? = some (b0 ^^ b1)) ∧
      (∀ k b0, s.operands.bits.length = 3 * k + 1 → s.operands.bits[3 * k]? = some b0 →
        out.drop (4 * k) = [b0, false, false, false]) ∧
      (∀ k b0 b1, s.operands.bits.length = 3 * k + 2 → s.operands.bits[3 * k]? = some b0 →
        s.operands.bits[3 * k + 1]? = some b1 → out.drop (4 * k) = [b0, b1, false, false])

/-- R177: `FECDEC.12`; a trailing single bit gives no output bit. -/
def Obligations.FecDecode12Result : Prop :=
  decodeWord 0x60 = .ok .fecdec12 ∧
  ∀ s : State, s.within s.operands.bits.length →
    ∃ out : Bits, exec .fecdec12 s = .next (s.answered ⟨.ok, none, .bits out⟩) ∧
      out.length = s.operands.bits.length / 2 ∧
      ∀ k a b, s.operands.bits[2 * k]? = some a → s.operands.bits[2 * k + 1]? = some b → out[k]? = some (a || b)

/-- R178: `FECDEC.13`; a trailing 1 or 2 bits give no output bit. -/
def Obligations.FecDecode13Result : Prop :=
  decodeWord 0x61 = .ok .fecdec13 ∧
  ∀ s : State, s.within s.operands.bits.length →
    ∃ out : Bits, exec .fecdec13 s = .next (s.answered ⟨.ok, none, .bits out⟩) ∧
      out.length = s.operands.bits.length / 3 ∧
      ∀ k a b c, s.operands.bits[3 * k]? = some a → s.operands.bits[3 * k + 1]? = some b → s.operands.bits[3 * k + 2]? = some c →
        out[k]? = some (decide (2 ≤ a.toNat + b.toNat + c.toNat))

/-- R179: `FECDEC.23`; the data positions of a partial group are emitted. -/
def Obligations.FecDecode23Result : Prop :=
  decodeWord 0x62 = .ok .fecdec23 ∧
  ∀ s : State, s.within s.operands.bits.length →
    ∃ out : Bits, exec .fecdec23 s = .next (s.answered ⟨.ok, none, .bits out⟩) ∧
      out.length = 2 * (s.operands.bits.length / 3) + min (s.operands.bits.length % 3) 2 ∧
      ∀ k j, j < 2 → 3 * k + j < s.operands.bits.length → out[2 * k + j]? = s.operands.bits[3 * k + j]?

/-- R181: `FECDEC.34`; the data positions of a partial group are emitted. -/
def Obligations.FecDecode34Result : Prop :=
  decodeWord 0x63 = .ok .fecdec34 ∧
  ∀ s : State, s.within s.operands.bits.length →
    ∃ out : Bits, exec .fecdec34 s = .next (s.answered ⟨.ok, none, .bits out⟩) ∧
      out.length = 3 * (s.operands.bits.length / 4) + s.operands.bits.length % 4 ∧
      ∀ k j, j < 3 → 4 * k + j < s.operands.bits.length → out[3 * k + j]? = s.operands.bits[4 * k + j]?

/-- R167, R208: the length of an encoding, the exact `encLen` of a payload at each rate, and when the two are the same. -/
def Obligations.EncodedLengthAndExpansion : Prop :=
  (∀ (r : Rate) (b : Bits), (fecEncode r b).length = encOut b.length r) ∧
  (∀ (r : Rate) (n : Nat), encLen n r ≤ encOut n r) ∧
  (∀ len : Nat, encLen (8 * len) .r12 = 16 * len ∧ encLen (8 * len) .r13 = 24 * len ∧ encLen (8 * len) .r23 = 12 * len ∧
    encLen (8 * len) .r34 = (32 * len + 2) / 3) ∧
  (∀ n, encLen n .r12 = encOut n .r12 ∧ encLen n .r13 = encOut n .r13) ∧
  (∀ n, n % 2 = 0 → encLen n .r23 = encOut n .r23) ∧
  (∀ n, n % 3 = 0 → encLen n .r34 = encOut n .r34)

/-- R183: on an error-free channel the input comes back as a prefix, followed by the padding zeros of the tail group. -/
def Obligations.FecRoundTripPrefix : Prop :=
  (∀ b : Bits, fecDecode .r12 (fecEncode .r12 b) = b) ∧
  (∀ b : Bits, fecDecode .r13 (fecEncode .r13 b) = b) ∧
  (∀ b : Bits, fecDecode .r23 (fecEncode .r23 b) = b ++ List.replicate (b.length % 2) false) ∧
  (∀ b : Bits, fecDecode .r34 (fecEncode .r34 b) = b ++ List.replicate ((3 - b.length % 3) % 3) false) ∧
  (∀ (r : Rate) (b : Bits), (fecDecode r (fecEncode r b)).take b.length = b)

/-- R184: which channel errors each decoder absorbs. At rate 1/2 a data bit 1 survives while one copy is right and a 0 needs both; at
rate 1/3 a data bit survives exactly when two copies are right; at rates 2/3 and 3/4 the parity positions have no effect. -/
def Obligations.FecErrorAbsorption : Prop :=
  (∀ (sent got : Bits) (i : Nat) (b : Bool), got.length = 2 * sent.length → sent[i]? = some b →
    ((fecDecode .r12 got)[i]? = some b ↔
      (if b then 1 else 2) ≤ (List.range 2).countP fun j => decide (got[2 * i + j]? = some b))) ∧
  (∀ (sent got : Bits) (i : Nat) (b : Bool), got.length = 3 * sent.length → sent[i]? = some b →
    ((fecDecode .r13 got)[i]? = some b ↔ 2 ≤ (List.range 3).countP fun j => decide (got[3 * i + j]? = some b))) ∧
  (∀ x y : Bits, x.length = y.length → (∀ i, i % 3 ≠ 2 → x[i]? = y[i]?) → fecDecode .r23 x = fecDecode .r23 y) ∧
  (∀ x y : Bits, x.length = y.length → (∀ i, i % 4 ≠ 3 → x[i]? = y[i]?) → fecDecode .r34 x = fecDecode .r34 y)

/-- R175: the encoding of a concatenation at a group boundary. -/
def Obligations.FecEncodesByGroup : Prop :=
  (∀ a b : Bits, fecEncode .r12 (a ++ b) = fecEncode .r12 a ++ fecEncode .r12 b) ∧
  (∀ a b : Bits, fecEncode .r13 (a ++ b) = fecEncode .r13 a ++ fecEncode .r13 b) ∧
  (∀ a b : Bits, a.length % 2 = 0 → fecEncode .r23 (a ++ b) = fecEncode .r23 a ++ fecEncode .r23 b) ∧
  (∀ a b : Bits, a.length % 3 = 0 → fecEncode .r34 (a ++ b) = fecEncode .r34 a ++ fecEncode .r34 b)

/-! ### The Frame Codec -/

/-- R92: the preamble. -/
def Obligations.PreambleConstant : Prop :=
  preamble = bitsMsbFirst (0xB4E5B4E5B4E5B4E5 : BitVec 64) ∧ preamble.count true = 36 ∧ preamble.count false = 28 ∧
  ∀ j, j < 64 → preamble[j]? = preamble16[j % 16]?

/-- R91, R201, R203: `ENCFRAME.r` and the fields of the frame it answers.
A payload too long for LENGTH is refused. -/
def Obligations.EncodeFrameResult : Prop :=
  ∀ (r : Rate) (s : State),
    decodeWord (0x70 + r.code.setWidth 8) = .ok (.encframe r) ∧
    (2 ^ 32 - 1 < s.operands.bytes.length → exec (.encframe r) s = .next (s.answered ⟨.badOperand, none, .none⟩)) ∧
    (s.operands.bytes.length ≤ 2 ^ 32 - 1 → s.within s.operands.bytes.length →
      ∃ frame : Bits, exec (.encframe r) s = .next (s.answered ⟨.ok, none, .bits frame⟩) ∧
        frame.length = 128 + encOut (8 * s.operands.bytes.length) r ∧
        frame.take 64 = preamble ∧
        (bitsToU32 ((frame.drop 64).take 32)).toNat = s.operands.bytes.length ∧
        bitsToU32 ((frame.drop 96).take 32) = crc32 s.operands.bytes ∧
        frame.drop 128 = fecEncode r (bytesToBits s.operands.bytes))

/-- R205 to R217: `DECFRAME.r` answers the payload exactly when the checks that can fail pass, and else the sub-code of the first one
that does not; `SHORT_FEC` and `BYTE_COUNT` never occur (R211, R213). -/
def Obligations.DecodeFrameResult : Prop :=
  ∀ (r : Rate) (s : State), s.within s.operands.bits.length →
    decodeWord (0x80 + r.code.setWidth 8) = .ok (.decframe r) ∧
    ∃ resp : Response, exec (.decframe r) s = .next (s.answered resp) ∧
      let bits := s.operands.bits
      let start := s.operands.start
      let len := (bitsToU32 ((bits.drop start).take 32)).toNat
      let payload := bitsToBytes ((fecDecode r ((bits.drop (start + 64)).take (encLen (8 * len) r))).take (8 * len))
      (bits.length < start + 64 → resp = ⟨.none, some .shortHeader, .none⟩) ∧
      (start + 64 ≤ bits.length → (len = 0 ∨ 50000000 < len) → resp = ⟨.none, some .lenRange, .none⟩) ∧
      (start + 64 ≤ bits.length → 0 < len → len ≤ 50000000 → bits.length < start + 64 + encLen (8 * len) r →
        resp = ⟨.none, some .shortPayload, .none⟩) ∧
      (start + 64 + encLen (8 * len) r ≤ bits.length → 0 < len → len ≤ 50000000 →
        crc32 payload ≠ bitsToU32 ((bits.drop (start + 32)).take 32) → resp = ⟨.none, some .crcMismatch, .none⟩) ∧
      (start + 64 + encLen (8 * len) r ≤ bits.length → 0 < len → len ≤ 50000000 →
        crc32 payload = bitsToU32 ((bits.drop (start + 32)).take 32) →
        resp = ⟨.ok, none, .bytes payload⟩ ∧ payload.length = len)

/-- R218: the round trip of a frame at every rate, wherever it stands in a bit sequence, over the decode domain; outside that domain
the frame is built and rejected. -/
def Obligations.FrameRoundTrip : Prop :=
  (∀ (r : Rate) (payload : Bytes) (x y : Bits), 1 ≤ payload.length → payload.length ≤ 50000000 →
    decodeFrame (x ++ encodeFrame payload r ++ y) (x.length + 64) r = .ok payload) ∧
  (∀ (r : Rate) (payload : Bytes) (x y : Bits), (payload.length = 0 ∨ 50000000 < payload.length) →
    payload.length ≤ 2 ^ 32 - 1 →
    decodeFrame (x ++ encodeFrame payload r ++ y) (x.length + 64) r = .error .lenRange)

/-- R209, R210: of the encoded payload exactly `encLen` bits are needed, so a frame at rate 3/4 may be cut short by the padding bits of
its tail group; one bit fewer is rejected. -/
def Obligations.TruncatedFrameParses : Prop :=
  ∀ (r : Rate) (payload : Bytes) (n : Nat), 1 ≤ payload.length → payload.length ≤ 50000000 →
    (128 + encLen (8 * payload.length) r ≤ n → decodeFrame ((encodeFrame payload r).take n) 64 r = .ok payload) ∧
    (128 ≤ n → n < 128 + encLen (8 * payload.length) r →
      decodeFrame ((encodeFrame payload r).take n) 64 r = .error .shortPayload)

/-- R210, R217: nothing before the start index, nothing after the slice, no parity position inside it at rates 2/3 and 3/4, and not
the padding position at the end of a tail group (rate 3/4, `LENGTH` no multiple of 3) bears on an accepted frame. -/
def Obligations.UnreadBitsHaveNoEffect : Prop :=
  ∀ (r : Rate) (x y : Bits) (start : Nat) (payload : Bytes), x.length = y.length →
    decodeFrame x start r = .ok payload →
    (∀ i, start ≤ i → i < start + 64 + encLen (8 * payload.length) r →
      (r = .r23 → start + 64 ≤ i → (i - (start + 64)) % 3 ≠ 2) →
      (r = .r34 → start + 64 ≤ i → (i - (start + 64)) % 4 ≠ 3) →
      (r = .r34 → payload.length % 3 ≠ 0 → i + 1 ≠ start + 64 + encLen (8 * payload.length) r) → x[i]? = y[i]?) →
    decodeFrame y start r = .ok payload

/-! ### The Synchronizer -/

/-- R231 to R236: `FINDPRE` answers the first offset of the scan set with at most 2 mismatches where there is one, else the lowest
offset with the fewest mismatches when they are at most 6, else `NONE`. -/
def Obligations.FindPreambleResult : Prop :=
  decodeWord 0x90 = .ok .findpre ∧
  ∀ s : State, s.within s.operands.bits.length →
    ∃ resp : Response, exec .findpre s = .next (s.answered resp) ∧
      let bits := s.operands.bits
      let margin := s.config.syncMargin
      (∀ p, resp = ⟨.ok, none, .index p⟩ ↔
        inScanSet margin bits p ∧ 58 ≤ similarity bits p ∧
        ((62 ≤ similarity bits p ∧ ∀ q, q < p → similarity bits q ≤ 61) ∨
         ((∀ q, inScanSet margin bits q → similarity bits q ≤ 61) ∧
          (∀ q, inScanSet margin bits q → similarity bits q ≤ similarity bits p) ∧
          (∀ q, q < p → similarity bits q < similarity bits p)))) ∧
      (resp = ⟨.none, none, .none⟩ ↔ ∀ q, inScanSet margin bits q → similarity bits q ≤ 57)

/-- R239: the guarantees (a) to (e) of `findPreamble`. -/
def Obligations.FindPreambleGuarantees : Prop :=
  ∀ (margin : Nat) (bits : Bits),
    (∀ off, findPreamble margin bits = some off → inScanSet margin bits off ∧ 64 - similarity bits off ≤ 6) ∧
    ((∃ off, inScanSet margin bits off ∧ 64 - similarity bits off ≤ 6) → findPreamble margin bits ≠ none) ∧
    (findPreamble margin bits = none → ∀ off, inScanSet margin bits off → 7 ≤ 64 - similarity bits off) ∧
    (∀ p, inScanSet margin bits p → 64 - similarity bits p ≤ 2 → (∀ q, q < p → 3 ≤ 64 - similarity bits q) →
      findPreamble margin bits = some p) ∧
    (∀ p, inScanSet margin bits p → 3 ≤ 64 - similarity bits p → 64 - similarity bits p ≤ 6 →
      (∀ q, q < p → 64 - similarity bits p < 64 - similarity bits q) →
      (∀ q, inScanSet margin bits q → 64 - similarity bits p ≤ 64 - similarity bits q) →
      findPreamble margin bits = some p)

/-! ### The session commands -/

/-- R260, R261: `SSTART`: `BUSY`, then validation, then the latching and the session reset, after which the worker stands at R262. -/
def Obligations.SstartRule : Prop :=
  decodeWord 0xA0 = .ok .sstart ∧
  (∀ s : State, s.record.fsm ≠ .idle → s.record.fsm ≠ .stopped → exec .sstart s = .next (s.answered ⟨.busy, none, .none⟩)) ∧
  (∀ s : State, (s.record.fsm = .idle ∨ s.record.fsm = .stopped) →
    (s.operands.record.params.sps = 0 ∨ s.operands.record.kind = .reserved ∨ s.operands.record.present = false ∨
      2 ^ 32 - 1 < s.operands.record.bytes.length) →
    exec .sstart s = .next
      { s with trace := s.trace ++ [.notify (.onFailed .configError), .response ⟨.configError, none, .none⟩] }) ∧
  (∀ s : State, (s.record.fsm = .idle ∨ s.record.fsm = .stopped) →
    s.operands.record.params.sps ≠ 0 → s.operands.record.kind ≠ .reserved → s.operands.record.present = true →
    s.operands.record.bytes.length ≤ 2 ^ 32 - 1 →
    exec .sstart s = .next
      { s with
        params := s.operands.record.params
        buffers := { payload := s.operands.record.bytes, payloadName := s.operands.record.displayName,
                     payloadKind := s.operands.record.kind, frame := [], result := [], resultValid := false }
        record := { fsm := s.record.fsm, running := true, framesTx := 0, reads := 0, decodes := 0, snrHist := [],
                    rxBufSize := 0, frameSamples := 0, failReason := .none }
        worker := .configure
        trace := s.trace ++ [.response ⟨.ok, none, .none⟩] })

/-- A second `SSTART` before R262, while `S` still reads `IDLE` or `STOPPED` (R260, R261), leaves what it alone would have left, but
for the first one's answer: the first session makes no call and no report. That the accepted session so disappears is the model's
reading (log entry 4). -/
def Obligations.SstartReplacesWaitingSession : Prop :=
  ∀ (s : State) (o : Operands), (s.record.fsm = .idle ∨ s.record.fsm = .stopped) →
    s.operands.record.valid = true → o.record.valid = true →
    ∃ t u v : State, exec .sstart s = .next t ∧ t.worker = .configure ∧ t.record.fsm = s.record.fsm ∧
      exec .sstart { t with operands := o } = .next u ∧ exec .sstart { s with operands := o } = .next v ∧
      u = { v with trace := s.trace ++ [.response ⟨.ok, none, .none⟩, .response ⟨.ok, none, .none⟩] }

/-- R278: `SSTOP` in every state. That this takes in the time between an accepted `SSTART` and R262, when `S` still reads `IDLE` or
`STOPPED`, is the model's reading (log entry 26). -/
def Obligations.SstopClearsRunning : Prop :=
  decodeWord 0xB0 = .ok .sstop ∧
  ∀ s : State, exec .sstop s = .next
    { s with record := { s.record with running := false }, trace := s.trace ++ [.response ⟨.ok, none, .none⟩] }

/-- R279: `SSNAP` in every state. -/
def Obligations.SsnapCopiesRecord : Prop :=
  decodeWord 0xC0 = .ok .ssnap ∧
  ∀ s : State, exec .ssnap s = .next (s.answered ⟨.ok, none, .snapshot
    { record := s.record, resultValid := s.buffers.resultValid, result := s.buffers.result,
      payloadName := s.buffers.payloadName, payloadKind := s.buffers.payloadKind }⟩)

/-! ### The session worker -/

/-- R262: worker step `configure`. That a failed call leaves `configured` open and the rest of the Radio Device as it was is the
model's free value (log entry 13). -/
def Obligations.WorkerConfigureStep : Prop :=
  ∀ (s : State) (a b : RadioAnswer) (rest : List Input), s.inputs = .worker a b :: rest → s.worker = .configure →
    let call : RadioCall := .configure s.params.radioAddr s.params.txFreq s.params.rxFreq s.params.sampleRate s.params.txGain
      s.params.rxGain true
    (∀ buf, a = .returned buf → step s = .next
      { s with inputs := rest, radio := { s.radio with configured := true }, trace := s.trace ++ [.call call true],
               record := { s.record with fsm := .configured }, worker := .build }) ∧
    (a = .failed → ∃ tookEffect : Bool, step s = .next
      { s with inputs := rest, radio := { s.radio with configured := tookEffect }, draws := s.draws + 1,
               trace := s.trace ++ [.call call false],
               record := { s.record with failReason := .deviceError, fsm := .failed }, worker := .finish })

/-- R263, R137: worker step `build`; the sample count is exact. -/
def Obligations.WorkerBuildStep : Prop :=
  ∀ (s : State) (a b : RadioAnswer) (rest : List Input), s.inputs = .worker a b :: rest → s.worker = .build →
    s.buffers.payload.length ≤ 2 ^ 32 - 1 →
    ∃ n : BitVec 64, step s = .next
      { s with inputs := rest, buffers := { s.buffers with frame := encodeFrame s.buffers.payload s.params.rate },
               record := { s.record with frameSamples := n }, worker := .size } ∧
      n.toNat = (encodeFrame s.buffers.payload s.params.rate).length * s.params.sps.toNat

/-- R264, R266: worker step `size`. That a failed call leaves the device's size new or old and the rest of it as it was is the model's
free value (log entry 13). -/
def Obligations.WorkerSizeStep : Prop :=
  ∀ (s : State) (a b : RadioAnswer) (rest : List Input), s.inputs = .worker a b :: rest → s.worker = .size →
    ∃ n : BitVec 22, n.toNat = min (max (5 * s.record.frameSamples.toNat / 4) 262144) 2097152 ∧
    (∀ buf, a = .returned buf → step s = .next
      { s with inputs := rest, radio := { s.radio with rxSize := n }, trace := s.trace ++ [.call (.setReceiveBufferSize n) true],
               record := { s.record with rxBufSize := n }, worker := .transmit }) ∧
    (a = .failed → ∃ size, (size = n ∨ size = s.radio.rxSize) ∧ step s = .next
      { s with inputs := rest, radio := { s.radio with rxSize := size }, draws := s.draws + 1,
               trace := s.trace ++ [.call (.setReceiveBufferSize n) false],
               record := { s.record with rxBufSize := n, failReason := .deviceError, fsm := .failed }, worker := .finish })

/-- R265, R266, R39: worker step `transmit`; `FRAMES_TX` counts only a call that returned.
That the waveform is computed at this step is the model's choice (log entry 17). That a failed call may arm the device and changes
nothing else of it is the model's free value (log entry 13). -/
def Obligations.WorkerTransmitStep : Prop :=
  ∀ (s : State) (a b : RadioAnswer) (rest : List Input), s.inputs = .worker a b :: rest → s.worker = .transmit →
    let wave := mapFrame s.config.txAmplitude s.buffers.frame s.params.sps.toNat
    (∀ buf, a = .returned buf → step s = .next
      { s with inputs := rest, radio := { s.radio with txArmed := true }, trace := s.trace ++ [.call (.transmit wave) true],
               record := { s.record with framesTx := s.record.framesTx + 1, fsm := .transmitting }, worker := .settle }) ∧
    (a = .failed → ∃ armed, (s.radio.txArmed = true → armed = true) ∧ step s = .next
      { s with inputs := rest, radio := { s.radio with txArmed := armed }, draws := s.draws + 1,
               trace := s.trace ++ [.call (.transmit wave) false],
               record := { s.record with failReason := .deviceError, fsm := .failed }, worker := .finish })

/-- R267, R270: worker steps `settle` and `poll`; the cancel test comes before the budget test. -/
def Obligations.WorkerSettleAndPollSteps : Prop :=
  ∀ (s : State) (a b : RadioAnswer) (rest : List Input), s.inputs = .worker a b :: rest →
    (s.worker = .settle → step s = .next
      { s with inputs := rest, record := { s.record with fsm := .listening }, worker := .poll }) ∧
    (s.worker = .poll → s.record.running = false → step s = .next
      { s with inputs := rest, record := { s.record with failReason := .cancelled, fsm := .failed }, worker := .finish }) ∧
    (s.worker = .poll → s.record.running = true → s.params.maxReads.toNat ≤ s.record.reads.toNat → step s = .next
      { s with inputs := rest, record := { s.record with failReason := .budgetExhausted, fsm := .failed },
               worker := .finish }) ∧
    (s.worker = .poll → s.record.running = true → s.record.reads.toNat < s.params.maxReads.toNat →
      step s = .next { s with inputs := rest, worker := .receive })

/-- R271, R71, R253: worker step `receive`: a buffer of exactly `RXBUF_SIZE` samples, any of them; a failed call counts no read.
That `receive` arms the device's receive buffer is the model's reading (log entry 12), and how an answer's list of samples is made
that buffer its form (log entry 15). That a failed call may arm the device's receive buffer, disarms none and changes nothing else of
it is the model's free value (log entry 13). -/
def Obligations.WorkerReceiveStep : Prop :=
  ∀ (s : State) (a b : RadioAnswer) (rest : List Input), s.inputs = .worker a b :: rest → s.worker = .receive →
    (∀ samples, a = .returned samples → ∃ buf : List Sample,
      buf.length = s.record.rxBufSize.toNat ∧ (samples.length = s.record.rxBufSize.toNat → buf = samples) ∧ step s = .next
      { s with inputs := rest, radio := { s.radio with rxArmed := true }, trace := s.trace ++ [.call .receive true],
               record := { s.record with reads := s.record.reads + 1 }, rxBuffer := buf, worker := .diagnose }) ∧
    (a = .failed → ∃ armed, (s.radio.rxArmed = true → armed = true) ∧ step s = .next
      { s with inputs := rest, radio := { s.radio with rxArmed := armed }, draws := s.draws + 1,
               trace := s.trace ++ [.call .receive false],
               record := { s.record with failReason := .deviceError, fsm := .failed }, worker := .finish })

/-- R35, R272, R281: worker step `diagnose`, with the estimate in decibels for every positive real `SNR_EPS` (R10). The estimate of a buffer whose mean power is 0 is a free value (U9).
That estimate is the model's free value (log entry 10). -/
def Obligations.WorkerDiagnoseStep : Prop :=
  ∀ (s : State) (a b : RadioAnswer) (rest : List Input), s.inputs = .worker a b :: rest → s.worker = .diagnose →
    ∃ (snr : Snr) (drawn : Nat), step s = .next
      { s with
        inputs := rest
        record := { s.record with
          snrHist := (if s.record.snrHist.length = s.config.snrHistCap then s.record.snrHist.drop 1 else s.record.snrHist)
            ++ [snr] }
        draws := drawn
        trace := s.trace ++ [.notify (.onStats snr s.record.reads s.record.rxBufSize s.record.frameSamples)]
        worker := .attempt } ∧
      (meanPower s.rxBuffer ≠ 0 → drawn = s.draws ∧ ∀ eps : ℝ, 0 < eps →
        snr.decibels eps = 10 * Real.logb 10 ((meanPower s.rxBuffer : ℝ) / ((imagVariance s.rxBuffer : ℝ) + eps)))

/-- R273, R274: worker step `attempt`: one offset, one decode; a miss changes nothing and goes back to the poll point. R283: a frame is
decoded only where its preamble is in the scan and its payload in the buffer's bits. -/
def Obligations.WorkerAttemptStep : Prop :=
  ∀ (s : State) (a b : RadioAnswer) (rest : List Input), s.inputs = .worker a b :: rest → s.worker = .attempt →
    let bits := detect s.rxBuffer s.params.sps.toNat
    (∀ off payload, findPreamble s.config.syncMargin bits = some off →
      decodeFrame bits (off + 64) s.params.rate = .ok payload → step s = .next
      { s with inputs := rest, buffers := { s.buffers with result := payload, resultValid := true },
               record := { s.record with decodes := s.record.decodes + 1, fsm := .decoded }, rxBuffer := [],
               worker := .finish }) ∧
    ((∀ off payload, findPreamble s.config.syncMargin bits = some off →
        decodeFrame bits (off + 64) s.params.rate ≠ .ok payload) →
      step s = .next { s with inputs := rest, rxBuffer := [], worker := .poll }) ∧
    (∀ off payload, findPreamble s.config.syncMargin bits = some off →
      decodeFrame bits (off + 64) s.params.rate = .ok payload →
      off < 30000 ∧ off + 128 + s.config.syncMargin ≤ s.rxBuffer.length / s.params.sps.toNat ∧
      off + 128 + encLen (8 * payload.length) s.params.rate ≤ s.rxBuffer.length / s.params.sps.toNat)

/-- R276, R324, R39: worker step `finish`: both releases in order whatever they answer, then the report, then `STOPPED`. A release that
failed may leave its buffer armed (the model's free value, log entry 13). -/
def Obligations.WorkerFinishStep : Prop :=
  ∀ (s : State) (a b : RadioAnswer) (rest : List Input), s.inputs = .worker a b :: rest → s.worker = .finish →
    ∃ (tx rx : Bool) (drawn : Nat), step s = .next
      { s with
        inputs := rest
        radio := { s.radio with txArmed := tx, rxArmed := rx }
        draws := drawn
        record := { s.record with running := false, fsm := .stopped }
        worker := .resting
        trace := s.trace ++
          [.call .releaseTransmitBuffer (decide (a ≠ .failed)), .call .releaseReceiveBuffer (decide (b ≠ .failed)),
           .notify (if s.record.fsm = .decoded then
              .onDecoded s.buffers.result s.buffers.payloadName s.buffers.payloadKind
            else .onFailed s.record.failReason)] } ∧
      (a ≠ .failed → tx = false) ∧ (b ≠ .failed → rx = false) ∧
      (tx = true → s.radio.txArmed = true) ∧ (rx = true → s.radio.rxArmed = true) ∧
      (a ≠ .failed → b ≠ .failed → drawn = s.draws)

/-! ### The boundary functions -/

/-- R280, R282: the mapper sample by sample, the detector window by window, and that the detector undoes the mapper. -/
def Obligations.DetectorUndoesMapper : Prop :=
  (∀ (amp : Nat) (f : Bits) (sps : Nat), (mapFrame amp f sps).length = f.length * sps ∧
    ∀ k t b, f[k]? = some b → t < sps → (mapFrame amp f sps)[k * sps + t]? = some ⟨if b then (amp : Rat) else -(amp : Rat), 0⟩) ∧
  (∀ (buf : List Sample) (sps : Nat), 1 ≤ sps → (detect buf sps).length = buf.length / sps ∧
    ∀ k, k < buf.length / sps →
      (detect buf sps)[k]? = some (decide (0 < (((buf.drop (k * sps)).take sps).map Sample.re).sum / (sps : Rat)))) ∧
  (∀ (amp : Nat) (f : Bits) (sps : Nat), 1 ≤ amp → 1 ≤ sps → detect (mapFrame amp f sps) sps = f)

/-- R96, R264: every frame length is a multiple of 4 bits, so the receive window's product is exact; the window has its limits. -/
def Obligations.ReceiveWindowExact : Prop :=
  (∀ (payload : Bytes) (r : Rate), 4 ∣ (encodeFrame payload r).length) ∧
  (∀ (payload : Bytes) (r : Rate) (sps : Nat),
    4 * (5 * ((encodeFrame payload r).length * sps) / 4) = 5 * ((encodeFrame payload r).length * sps)) ∧
  (∀ n, 262144 ≤ receiveWindow n ∧ receiveWindow n ≤ 2097152)

/-! ### The whole block -/

/-- R41, R350: the state after power-on reset, for every value of the open parameters, and that nothing happens in it. -/
def Obligations.PowerOnResetState : Prop :=
  ∀ c : Config,
    (State.resetWith c).record =
      { fsm := .idle, running := false, framesTx := 0, reads := 0, decodes := 0, snrHist := [], rxBufSize := 0,
        frameSamples := 0, failReason := .none } ∧
    (State.resetWith c).buffers =
      { payload := [], payloadName := [], payloadKind := .text, frame := [], result := [], resultValid := false } ∧
    (State.resetWith c).worker = .resting ∧ step (State.resetWith c) = .next (State.resetWith c)

/-- R312, R327 (a): no operation and no step ends in a fault or a refusal. -/
def Obligations.EveryStepCompletes : Prop :=
  (∀ (i : Instr) (s : State), ∃ t, exec i s = .next t) ∧ (∀ s : State, ∃ t, step s = .next t)

/-- R21, R82: a datapath operation answers from its operands and the parameters alone, whatever the session is doing, and changes
nothing else. -/
def Obligations.DatapathIsIndependentOfSession : Prop :=
  ∀ (i : Instr) (s t : State), datapath i = true → s.operands = t.operands → s.config = t.config →
    ∃ r : Response, exec i s = .next (s.answered r) ∧ exec i t = .next (t.answered r)

/-- R38: of the host's commands only `SSTOP` and an accepted `SSTART` change the session's registers, `SSTOP` only `RUNNING`; none
makes a device call; none changes `S`. -/
def Obligations.CommandsAndSessionRecord : Prop :=
  ∀ (i : Instr) (s t : State), exec i s = .next t →
    t.record.fsm = s.record.fsm ∧ t.radio = s.radio ∧ t.rxBuffer = s.rxBuffer ∧ t.config = s.config ∧ t.inputs = s.inputs ∧
    (i ≠ .sstart → t.params = s.params ∧ t.buffers = s.buffers ∧ t.worker = s.worker) ∧
    (i = .sstop → t.record = { s.record with running := false }) ∧
    (i ≠ .sstart → i ≠ .sstop → t.record = s.record)

/-- R10, R33, R374: no step changes the open parameters, and only an accepted `SSTART` changes the session parameters and the
payload, to those of its record. That the open parameters stand in the state is the model's form (log entry 5). -/
def Obligations.ParametersAreLatched : Prop :=
  ∀ s t : State, step s = .next t →
    t.config = s.config ∧
    ((t.params = s.params ∧ t.buffers.payload = s.buffers.payload ∧ t.buffers.payloadName = s.buffers.payloadName ∧
        t.buffers.payloadKind = s.buffers.payloadKind) ∨
      ∃ (w : Byte) (o : Operands) (rest : List Input), s.inputs = .command w o :: rest ∧ decodeWord w = .ok .sstart ∧
        (s.record.fsm = .idle ∨ s.record.fsm = .stopped) ∧ o.record.valid = true ∧
        t.params = o.record.params ∧ t.buffers.payload = o.record.bytes ∧ t.buffers.payloadName = o.record.displayName ∧
        t.buffers.payloadKind = o.record.kind)

/-- The session invariant holds after power-on reset, for every admitted value of the open parameters. -/
def Obligations.SessionInvAtReset : Prop := ∀ c : Config, c.wf = true → SessionInv (State.resetWith c)

/-- R32, R37, R39, R61, R269, R275, R328: every step keeps the session invariant.
The worker's position is the model's register (log entry 11). -/
def Obligations.StepKeepsSessionInv : Prop := ∀ s t : State, SessionInv s → step s = .next t → SessionInv t

/-- R251: `S` changes only by the transitions of the table. -/
def Obligations.SessionStateTransitions : Prop :=
  ∀ s t : State, SessionInv s → step s = .next t → t.record.fsm = s.record.fsm ∨ allowedChange s.record.fsm t.record.fsm = true

/-- R269, R381: a live session reaches `STOPPED` within `4 × (MAX_READS - READS) + 8` turns of the worker, however the host's
commands fall between them and whatever the Radio Device answers.
That each call answers is in the listed turns (log entry 14). A session that waits for R262 gets there where no second `SSTART`
replaces it before the worker's turn (log entry 4). -/
def Obligations.LiveSessionReachesStopped : Prop :=
  ∀ s : State, SessionInv s → s.worker ≠ .resting → (s.worker = .configure → noStartBeforeTurn s.inputs = true) →
    4 * (s.params.maxReads.toNat - s.record.reads.toNat) + 8 ≤ s.inputs.countP isWorkerTurn →
    ∃ (k : Nat) (t : State), k ≤ s.inputs.length ∧ Host.Core.run Sys2Proof.core k s = .next t ∧
      t.worker = .resting ∧ t.record.fsm = .stopped ∧ t.params = s.params ∧
      t.record.reads.toNat ≤ s.params.maxReads.toNat

/-- R257, R265, R269, R276: from its acceptance to `STOPPED` a session makes one `configure` call, at most one `transmit` call, one
call of each release, `READS` successful reads of at most `MAX_READS`, one `onStats` a read, and exactly one final report. A session
that a second `SSTART` replaces before R262 makes no call and no report, so the counts are those of the session that ran (the model's
reading, log entry 4). -/
def Obligations.SessionCallsAndReports : Prop :=
  ∀ (s t : State) (k : Nat), SessionInv s → s.worker = .configure → Host.Core.run Sys2Proof.core k s = .next t →
    t.worker = .resting → (∀ j u, j < k → Host.Core.run Sys2Proof.core j s = .next u → u.worker ≠ .resting) →
    ∃ out : List Output, t.trace = s.trace ++ out ∧
      out.countP isConfigureCall = 1 ∧ out.countP isTransmitCall ≤ 1 ∧
      out.countP isTransmitRelease = 1 ∧ out.countP isReceiveRelease = 1 ∧
      out.countP isReceivedBuffer = t.record.reads.toNat ∧ out.countP isReadReport = t.record.reads.toNat ∧
      out.countP isReceiveCall ≤ t.params.maxReads.toNat ∧
      out.countP isOutcomeReport = 1 ∧ (out.getLast?.map isOutcomeReport) = some true
end

