-- ==== Sys2Proof/Laws/State.lean ====
section
/-! SUPPORT. What each update of the state leaves in each field: one lemma a field, true by `rfl` (by cases of the device's answer
for `radioCall`). No later proof unfolds a record update. -/

namespace Sys2Proof.Machine

/-! ### `State.clearRunning` -/

@[simp] theorem State.clearRunning_record (s : State) : (s.clearRunning).record = { s.record with running := false } := rfl
@[simp] theorem State.clearRunning_params (s : State) : (s.clearRunning).params = s.params := rfl
@[simp] theorem State.clearRunning_buffers (s : State) : (s.clearRunning).buffers = s.buffers := rfl
@[simp] theorem State.clearRunning_worker (s : State) : (s.clearRunning).worker = s.worker := rfl
@[simp] theorem State.clearRunning_rxBuffer (s : State) : (s.clearRunning).rxBuffer = s.rxBuffer := rfl
@[simp] theorem State.clearRunning_radio (s : State) : (s.clearRunning).radio = s.radio := rfl
@[simp] theorem State.clearRunning_config (s : State) : (s.clearRunning).config = s.config := rfl
@[simp] theorem State.clearRunning_operands (s : State) : (s.clearRunning).operands = s.operands := rfl
@[simp] theorem State.clearRunning_inputs (s : State) : (s.clearRunning).inputs = s.inputs := rfl
@[simp] theorem State.clearRunning_trace (s : State) : (s.clearRunning).trace = s.trace := rfl
@[simp] theorem State.clearRunning_draws (s : State) : (s.clearRunning).draws = s.draws := rfl

/-! ### `State.emit` -/

@[simp] theorem State.emit_record (s : State) (os : List Output) : (s.emit os).record = s.record := rfl
@[simp] theorem State.emit_params (s : State) (os : List Output) : (s.emit os).params = s.params := rfl
@[simp] theorem State.emit_buffers (s : State) (os : List Output) : (s.emit os).buffers = s.buffers := rfl
@[simp] theorem State.emit_worker (s : State) (os : List Output) : (s.emit os).worker = s.worker := rfl
@[simp] theorem State.emit_rxBuffer (s : State) (os : List Output) : (s.emit os).rxBuffer = s.rxBuffer := rfl
@[simp] theorem State.emit_radio (s : State) (os : List Output) : (s.emit os).radio = s.radio := rfl
@[simp] theorem State.emit_config (s : State) (os : List Output) : (s.emit os).config = s.config := rfl
@[simp] theorem State.emit_operands (s : State) (os : List Output) : (s.emit os).operands = s.operands := rfl
@[simp] theorem State.emit_inputs (s : State) (os : List Output) : (s.emit os).inputs = s.inputs := rfl
@[simp] theorem State.emit_trace (s : State) (os : List Output) : (s.emit os).trace = s.trace ++ os := rfl
@[simp] theorem State.emit_draws (s : State) (os : List Output) : (s.emit os).draws = s.draws := rfl

/-! ### `State.respond` -/

@[simp] theorem State.respond_record (s : State) (r : Response) : (s.respond r).record = s.record := rfl
@[simp] theorem State.respond_params (s : State) (r : Response) : (s.respond r).params = s.params := rfl
@[simp] theorem State.respond_buffers (s : State) (r : Response) : (s.respond r).buffers = s.buffers := rfl
@[simp] theorem State.respond_worker (s : State) (r : Response) : (s.respond r).worker = s.worker := rfl
@[simp] theorem State.respond_rxBuffer (s : State) (r : Response) : (s.respond r).rxBuffer = s.rxBuffer := rfl
@[simp] theorem State.respond_radio (s : State) (r : Response) : (s.respond r).radio = s.radio := rfl
@[simp] theorem State.respond_config (s : State) (r : Response) : (s.respond r).config = s.config := rfl
@[simp] theorem State.respond_operands (s : State) (r : Response) : (s.respond r).operands = s.operands := rfl
@[simp] theorem State.respond_inputs (s : State) (r : Response) : (s.respond r).inputs = s.inputs := rfl
@[simp] theorem State.respond_trace (s : State) (r : Response) : (s.respond r).trace = s.trace ++ [.response r] := rfl
@[simp] theorem State.respond_draws (s : State) (r : Response) : (s.respond r).draws = s.draws := rfl

/-! ### `State.answered` -/

@[simp] theorem State.answered_record (s : State) (r : Response) : (s.answered r).record = s.record := rfl
@[simp] theorem State.answered_params (s : State) (r : Response) : (s.answered r).params = s.params := rfl
@[simp] theorem State.answered_buffers (s : State) (r : Response) : (s.answered r).buffers = s.buffers := rfl
@[simp] theorem State.answered_worker (s : State) (r : Response) : (s.answered r).worker = s.worker := rfl
@[simp] theorem State.answered_rxBuffer (s : State) (r : Response) : (s.answered r).rxBuffer = s.rxBuffer := rfl
@[simp] theorem State.answered_radio (s : State) (r : Response) : (s.answered r).radio = s.radio := rfl
@[simp] theorem State.answered_config (s : State) (r : Response) : (s.answered r).config = s.config := rfl
@[simp] theorem State.answered_operands (s : State) (r : Response) : (s.answered r).operands = s.operands := rfl
@[simp] theorem State.answered_inputs (s : State) (r : Response) : (s.answered r).inputs = s.inputs := rfl
@[simp] theorem State.answered_trace (s : State) (r : Response) : (s.answered r).trace = s.trace ++ [.response r] := rfl
@[simp] theorem State.answered_draws (s : State) (r : Response) : (s.answered r).draws = s.draws := rfl

/-! ### `State.enterFailed` -/

@[simp] theorem State.enterFailed_record (s : State) (r : FailReason) :
    (s.enterFailed r).record =
      { s.record with failReason := r, fsm := .failed } := rfl
@[simp] theorem State.enterFailed_params (s : State) (r : FailReason) : (s.enterFailed r).params = s.params := rfl
@[simp] theorem State.enterFailed_buffers (s : State) (r : FailReason) : (s.enterFailed r).buffers = s.buffers := rfl
@[simp] theorem State.enterFailed_worker (s : State) (r : FailReason) : (s.enterFailed r).worker = .finish := rfl
@[simp] theorem State.enterFailed_rxBuffer (s : State) (r : FailReason) : (s.enterFailed r).rxBuffer = s.rxBuffer := rfl
@[simp] theorem State.enterFailed_radio (s : State) (r : FailReason) : (s.enterFailed r).radio = s.radio := rfl
@[simp] theorem State.enterFailed_config (s : State) (r : FailReason) : (s.enterFailed r).config = s.config := rfl
@[simp] theorem State.enterFailed_operands (s : State) (r : FailReason) : (s.enterFailed r).operands = s.operands := rfl
@[simp] theorem State.enterFailed_inputs (s : State) (r : FailReason) : (s.enterFailed r).inputs = s.inputs := rfl
@[simp] theorem State.enterFailed_trace (s : State) (r : FailReason) : (s.enterFailed r).trace = s.trace := rfl
@[simp] theorem State.enterFailed_draws (s : State) (r : FailReason) : (s.enterFailed r).draws = s.draws := rfl

/-! ### `State.acceptCommand` -/

@[simp] theorem State.acceptCommand_record (s : State) (o : Operands) (rest : List Input) :
    (s.acceptCommand o rest).record =
      s.record := rfl
@[simp] theorem State.acceptCommand_params (s : State) (o : Operands) (rest : List Input) :
    (s.acceptCommand o rest).params =
      s.params := rfl
@[simp] theorem State.acceptCommand_buffers (s : State) (o : Operands) (rest : List Input) :
    (s.acceptCommand o rest).buffers =
      s.buffers := rfl
@[simp] theorem State.acceptCommand_worker (s : State) (o : Operands) (rest : List Input) :
    (s.acceptCommand o rest).worker =
      s.worker := rfl
@[simp] theorem State.acceptCommand_rxBuffer (s : State) (o : Operands) (rest : List Input) :
    (s.acceptCommand o rest).rxBuffer =
      s.rxBuffer := rfl
@[simp] theorem State.acceptCommand_radio (s : State) (o : Operands) (rest : List Input) :
    (s.acceptCommand o rest).radio =
      s.radio := rfl
@[simp] theorem State.acceptCommand_config (s : State) (o : Operands) (rest : List Input) :
    (s.acceptCommand o rest).config =
      s.config := rfl
@[simp] theorem State.acceptCommand_operands (s : State) (o : Operands) (rest : List Input) :
    (s.acceptCommand o rest).operands =
      o := rfl
@[simp] theorem State.acceptCommand_inputs (s : State) (o : Operands) (rest : List Input) :
    (s.acceptCommand o rest).inputs =
      rest := rfl
@[simp] theorem State.acceptCommand_trace (s : State) (o : Operands) (rest : List Input) :
    (s.acceptCommand o rest).trace =
      s.trace := rfl
@[simp] theorem State.acceptCommand_draws (s : State) (o : Operands) (rest : List Input) :
    (s.acceptCommand o rest).draws =
      s.draws := rfl

/-! ### `State.presentCommand` -/

@[simp] theorem State.presentCommand_record (s : State) (w : Byte) : (s.presentCommand w).record = s.record := rfl
@[simp] theorem State.presentCommand_params (s : State) (w : Byte) : (s.presentCommand w).params = s.params := rfl
@[simp] theorem State.presentCommand_buffers (s : State) (w : Byte) : (s.presentCommand w).buffers = s.buffers := rfl
@[simp] theorem State.presentCommand_worker (s : State) (w : Byte) : (s.presentCommand w).worker = s.worker := rfl
@[simp] theorem State.presentCommand_rxBuffer (s : State) (w : Byte) : (s.presentCommand w).rxBuffer = s.rxBuffer := rfl
@[simp] theorem State.presentCommand_radio (s : State) (w : Byte) : (s.presentCommand w).radio = s.radio := rfl
@[simp] theorem State.presentCommand_config (s : State) (w : Byte) : (s.presentCommand w).config = s.config := rfl
@[simp] theorem State.presentCommand_operands (s : State) (w : Byte) : (s.presentCommand w).operands = s.operands := rfl
@[simp] theorem State.presentCommand_inputs (s : State) (w : Byte) :
    (s.presentCommand w).inputs =
      .command w s.operands :: s.inputs := rfl
@[simp] theorem State.presentCommand_trace (s : State) (w : Byte) : (s.presentCommand w).trace = s.trace := rfl
@[simp] theorem State.presentCommand_draws (s : State) (w : Byte) : (s.presentCommand w).draws = s.draws := rfl

/-! ### `State.startSession` -/

@[simp] theorem State.startSession_record (s : State) (r : StartRecord) : (s.startSession r).record = s.record.sessionReset := rfl
@[simp] theorem State.startSession_params (s : State) (r : StartRecord) : (s.startSession r).params = r.params := rfl
@[simp] theorem State.startSession_buffers (s : State) (r : StartRecord) :
    (s.startSession r).buffers =
      { payload := r.bytes, payloadName := r.displayName, payloadKind := r.kind, frame := [], result := [], resultValid := false } := rfl
@[simp] theorem State.startSession_worker (s : State) (r : StartRecord) : (s.startSession r).worker = .configure := rfl
@[simp] theorem State.startSession_rxBuffer (s : State) (r : StartRecord) : (s.startSession r).rxBuffer = s.rxBuffer := rfl
@[simp] theorem State.startSession_radio (s : State) (r : StartRecord) : (s.startSession r).radio = s.radio := rfl
@[simp] theorem State.startSession_config (s : State) (r : StartRecord) : (s.startSession r).config = s.config := rfl
@[simp] theorem State.startSession_operands (s : State) (r : StartRecord) : (s.startSession r).operands = s.operands := rfl
@[simp] theorem State.startSession_inputs (s : State) (r : StartRecord) : (s.startSession r).inputs = s.inputs := rfl
@[simp] theorem State.startSession_trace (s : State) (r : StartRecord) : (s.startSession r).trace = s.trace := rfl
@[simp] theorem State.startSession_draws (s : State) (r : StartRecord) : (s.startSession r).draws = s.draws := rfl

/-! ### `State.radioCall` -/

@[simp] theorem State.radioCall_record (s : State) (c : RadioCall) (a : RadioAnswer) :
    (s.radioCall c a).record = s.record := by
  cases a <;> rfl
@[simp] theorem State.radioCall_params (s : State) (c : RadioCall) (a : RadioAnswer) :
    (s.radioCall c a).params = s.params := by
  cases a <;> rfl
@[simp] theorem State.radioCall_buffers (s : State) (c : RadioCall) (a : RadioAnswer) :
    (s.radioCall c a).buffers = s.buffers := by
  cases a <;> rfl
@[simp] theorem State.radioCall_worker (s : State) (c : RadioCall) (a : RadioAnswer) :
    (s.radioCall c a).worker = s.worker := by
  cases a <;> rfl
@[simp] theorem State.radioCall_rxBuffer (s : State) (c : RadioCall) (a : RadioAnswer) :
    (s.radioCall c a).rxBuffer = s.rxBuffer := by
  cases a <;> rfl
@[simp] theorem State.radioCall_config (s : State) (c : RadioCall) (a : RadioAnswer) :
    (s.radioCall c a).config = s.config := by
  cases a <;> rfl
@[simp] theorem State.radioCall_operands (s : State) (c : RadioCall) (a : RadioAnswer) :
    (s.radioCall c a).operands = s.operands := by
  cases a <;> rfl
@[simp] theorem State.radioCall_inputs (s : State) (c : RadioCall) (a : RadioAnswer) :
    (s.radioCall c a).inputs = s.inputs := by
  cases a <;> rfl

@[simp] theorem State.radioCall_trace (s : State) (c : RadioCall) (a : RadioAnswer) :
    (s.radioCall c a).trace = s.trace ++ [.call c a.succeeded] := by
  cases a <;> rfl

/-! ### The session reset of the record (R261) -/

@[simp] theorem SessionRecord.sessionReset_fsm (r : SessionRecord) : r.sessionReset.fsm = r.fsm := rfl
@[simp] theorem SessionRecord.sessionReset_running (r : SessionRecord) : r.sessionReset.running = true := rfl
@[simp] theorem SessionRecord.sessionReset_framesTx (r : SessionRecord) : r.sessionReset.framesTx = 0 := rfl
@[simp] theorem SessionRecord.sessionReset_reads (r : SessionRecord) : r.sessionReset.reads = 0 := rfl
@[simp] theorem SessionRecord.sessionReset_decodes (r : SessionRecord) : r.sessionReset.decodes = 0 := rfl
@[simp] theorem SessionRecord.sessionReset_snrHist (r : SessionRecord) : r.sessionReset.snrHist = [] := rfl
@[simp] theorem SessionRecord.sessionReset_rxBufSize (r : SessionRecord) : r.sessionReset.rxBufSize = 0 := rfl
@[simp] theorem SessionRecord.sessionReset_frameSamples (r : SessionRecord) : r.sessionReset.frameSamples = 0 := rfl
@[simp] theorem SessionRecord.sessionReset_failReason (r : SessionRecord) : r.sessionReset.failReason = .none := rfl

end Sys2Proof.Machine
end

