-- ==== Sys2Proof/Laws/Ops.lean ====
section
/-! SUPPORT. The shared operations, each said once: what a command can answer, what a call of the Radio Device can do, the way out
of a session, the SNR history. -/

namespace Sys2Proof.Machine

/-! ### Answers of a command -/

theorem answer_eq (s : State) (r : Response) : answer s r = .next (s.answered r) := rfl

theorem badOperand_eq (s : State) : badOperand s = .next (s.answered ⟨.badOperand, none, .none⟩) := rfl

theorem fits_iff_within (s : State) (n : Nat) : s.fits n = true ↔ s.within n := by
  unfold State.fits State.within
  cases s.config.maxSeq with
  | none => simp
  | some m => simp

/-- A command with one sequence operand: it ends with its response, or with `BAD_OPERAND` when the operand is too long. -/
theorem sequenceCommand_spec (s : State) (n : Nat) (r : Response) :
    (s.within n ∧ sequenceCommand s n r = .next (s.answered r)) ∨
      (¬ s.within n ∧ sequenceCommand s n r = .next (s.answered ⟨.badOperand, none, .none⟩)) := by
  unfold sequenceCommand
  by_cases h : s.fits n = true
  · exact .inl ⟨(fits_iff_within s n).mp h, by simp [h, answer_eq]⟩
  · exact .inr ⟨fun w => h ((fits_iff_within s n).mpr w), by simp [h, badOperand_eq]⟩

theorem sequenceCommand_within {s : State} {n : Nat} (h : s.within n) (r : Response) :
    sequenceCommand s n r = .next (s.answered r) := by
  rcases sequenceCommand_spec s n r with ⟨-, e⟩ | ⟨h', -⟩
  · exact e
  · exact absurd h h'

/-- A response is determined by the state it is added to. -/
theorem answered_injective (s : State) {r r' : Response} (h : s.answered r = s.answered r') : r = r' := by
  have ht : (s.answered r).trace = (s.answered r').trace := by rw [h]
  simpa using ht

/-! ### Calls of the Radio Device -/

theorem radioCall_returned (s : State) (c : RadioCall) (buf : List Sample) :
    s.radioCall c (.returned buf) = { s with radio := deviceAfter s.radio c, trace := s.trace ++ [.call c true] } := rfl

/-- After a failed call the device is as that call can leave it, and one free value more is drawn. -/
theorem radioCall_failed (s : State) (c : RadioCall) :
    ∃ tookEffect, s.radioCall c .failed =
      { s with radio := deviceAfterFailure tookEffect s.radio c, draws := s.draws + 1, trace := s.trace ++ [.call c false] } :=
  ⟨_, rfl⟩

/-- A failed call took effect or left the device as it was; a failed `configure` leaves it configured or not. -/
theorem deviceAfterFailure_cases (b : Bool) (d : RadioDevice) (c : RadioCall) :
    deviceAfterFailure b d c = deviceAfter d c ∨ deviceAfterFailure b d c = d ∨
      deviceAfterFailure b d c = { d with configured := false } := by
  cases c <;> cases b <;> simp [deviceAfterFailure, deviceAfter]

/-- What a call does not concern it leaves, whether it returns or fails (R39): only `configure` touches whether the device is
configured. -/
theorem radioCall_configured {s : State} {c : RadioCall} (hc : isConfigureCall (.call c true) = false) (a : RadioAnswer) :
    (s.radioCall c a).radio.configured = s.radio.configured := by
  cases a with
  | returned buf => cases c <;> simp_all [radioCall_returned, deviceAfter, isConfigureCall]
  | failed =>
    obtain ⟨b, e⟩ := radioCall_failed s c
    rw [e]
    cases c <;> cases b <;> simp_all [deviceAfterFailure, deviceAfter, isConfigureCall]

/-- Only `setReceiveBufferSize` touches the receive size (R39). -/
theorem radioCall_rxSize {s : State} {c : RadioCall} (hc : ∀ n, c ≠ .setReceiveBufferSize n) (a : RadioAnswer) :
    (s.radioCall c a).radio.rxSize = s.radio.rxSize := by
  cases a with
  | returned buf => cases c <;> simp_all [radioCall_returned, deviceAfter]
  | failed =>
    obtain ⟨b, e⟩ := radioCall_failed s c
    rw [e]
    cases c <;> cases b <;> simp_all [deviceAfterFailure, deviceAfter]

/-- Only the release of the transmit buffer can end a replay (R39). -/
theorem radioCall_txArmed {s : State} {c : RadioCall} (hc : c ≠ .releaseTransmitBuffer) (h : s.radio.txArmed = true)
    (a : RadioAnswer) : (s.radioCall c a).radio.txArmed = true := by
  cases a with
  | returned buf => cases c <;> simp_all [radioCall_returned, deviceAfter]
  | failed =>
    obtain ⟨b, e⟩ := radioCall_failed s c
    rw [e]
    cases c <;> cases b <;> simp_all [deviceAfterFailure, deviceAfter]

/-- Releasing the transmit buffer disarms it, or, when the call fails, may leave it as it was (R276, U19). -/
theorem radioCall_releaseTransmit (s : State) (a : RadioAnswer) :
    ∃ tx, (s.radioCall .releaseTransmitBuffer a).radio = { s.radio with txArmed := tx } ∧
      (a.succeeded = true → tx = false) ∧ (tx = true → s.radio.txArmed = true) := by
  cases a with
  | returned buf => exact ⟨false, rfl, fun _ => rfl, fun h => nomatch h⟩
  | failed =>
    obtain ⟨b, e⟩ := radioCall_failed s .releaseTransmitBuffer
    rw [e]
    cases b with
    | true => exact ⟨false, rfl, fun _ => rfl, fun h => nomatch h⟩
    | false => exact ⟨s.radio.txArmed, rfl, fun h => (nomatch h), id⟩

/-- Releasing the receive buffer disarms it, or, when the call fails, may leave it as it was (R276, U19). -/
theorem radioCall_releaseReceive (s : State) (a : RadioAnswer) :
    ∃ rx, (s.radioCall .releaseReceiveBuffer a).radio = { s.radio with rxArmed := rx } ∧
      (a.succeeded = true → rx = false) ∧ (rx = true → s.radio.rxArmed = true) := by
  cases a with
  | returned buf => exact ⟨false, rfl, fun _ => rfl, fun h => nomatch h⟩
  | failed =>
    obtain ⟨b, e⟩ := radioCall_failed s .releaseReceiveBuffer
    rw [e]
    cases b with
    | true => exact ⟨false, rfl, fun _ => rfl, fun h => nomatch h⟩
    | false => exact ⟨s.radio.rxArmed, rfl, fun h => (nomatch h), id⟩

/-- A buffer that was received has the size it was asked for; an answer of that size is the buffer. -/
theorem buffer_returned (size : Nat) (samples : List Sample) :
    ((RadioAnswer.returned samples).buffer size).length = size ∧
      (samples.length = size → (RadioAnswer.returned samples).buffer size = samples) := by
  refine ⟨by simp [RadioAnswer.buffer], fun h => ?_⟩
  subst h
  simp [RadioAnswer.buffer, List.takeD_eq_take]

/-- A device call that decides how the session goes on. -/
theorem callOrFail_spec (s : State) (c : RadioCall) (a : RadioAnswer) (k : State → State) :
    (a.succeeded = true ∧ s.callOrFail c a k = k (s.radioCall c a)) ∨
      (a.succeeded = false ∧ s.callOrFail c a k = (s.radioCall c a).enterFailed .deviceError) := by
  unfold State.callOrFail
  cases a with
  | failed => exact .inr ⟨rfl, rfl⟩
  | returned buf => exact .inl ⟨rfl, rfl⟩

/-! ### The way out of a session -/

theorem leaveSession_record (s : State) (a b : RadioAnswer) :
    (s.leaveSession a b).record = { s.record with running := false, fsm := .stopped } := by
  simp [State.leaveSession]

theorem leaveSession_worker (s : State) (a b : RadioAnswer) : (s.leaveSession a b).worker = .resting := rfl

theorem leaveSession_trace (s : State) (a b : RadioAnswer) :
    (s.leaveSession a b).trace = s.trace ++
      [.call .releaseTransmitBuffer a.succeeded, .call .releaseReceiveBuffer b.succeeded, .notify s.outcomeNotice] := by
  simp [State.leaveSession]

theorem leaveSession_rest (s : State) (a b : RadioAnswer) :
    (s.leaveSession a b).params = s.params ∧ (s.leaveSession a b).buffers = s.buffers ∧
      (s.leaveSession a b).rxBuffer = s.rxBuffer ∧ (s.leaveSession a b).config = s.config ∧
      (s.leaveSession a b).operands = s.operands ∧ (s.leaveSession a b).inputs = s.inputs := by
  simp [State.leaveSession]

/-- The way out touches nothing of the device but what is armed (R39, R276). -/
theorem leaveSession_radio (s : State) (a b : RadioAnswer) :
    ∃ tx rx, (s.leaveSession a b).radio = { s.radio with txArmed := tx, rxArmed := rx } ∧
      (a.succeeded = true → tx = false) ∧ (b.succeeded = true → rx = false) ∧
      (tx = true → s.radio.txArmed = true) ∧ (rx = true → s.radio.rxArmed = true) := by
  obtain ⟨tx, e, h1, h2⟩ := radioCall_releaseTransmit s a
  obtain ⟨rx, e', h3, h4⟩ := radioCall_releaseReceive (s.radioCall .releaseTransmitBuffer a) b
  rw [e] at e' h4
  exact ⟨tx, rx, e', h1, h3, h2, h4⟩

/-! ### The SNR history -/

/-- The history grows by one until it is full. -/
theorem snrAppend_length {cap : Nat} (hcap : 1 ≤ cap) (hist : List Snr) (v : Snr) (h : hist.length ≤ cap) :
    (snrAppend cap hist v).length = min (hist.length + 1) cap := by
  unfold snrAppend
  split <;> simp <;> omega

/-- The newest entry is the last. -/
theorem snrAppend_getLast (cap : Nat) (hist : List Snr) (v : Snr) : (snrAppend cap hist v).getLast? = some v := by
  simp [snrAppend]

end Sys2Proof.Machine
end

