-- ==== Sys2Proof/Laws/Codec.lean ====
section
/-! SUPPORT. The two directions between a word and its bits, each said once: which bit stands where. -/

namespace Sys2Proof.Machine

@[simp] theorem bitsMsbFirst_length {w : Nat} (x : BitVec w) : (bitsMsbFirst x).length = w := by
  simp [bitsMsbFirst]

/-- Element `j` of a word's bits is bit `w - 1 - j` of the word. -/
theorem bitsMsbFirst_getElem? {w : Nat} (x : BitVec w) {j : Nat} (h : j < w) :
    (bitsMsbFirst x)[j]? = some (x.getLsbD (w - 1 - j)) := by
  simp [bitsMsbFirst, h]

/-- After one more bit is shifted in: bit 0 is the new one, and bit `i + 1` is the old bit `i`. -/
theorem shiftIn_getLsbD {w : Nat} (sh : BitVec w) (b : Bool) (i : Nat) :
    (shiftIn sh b).getLsbD i = (decide (i < w) && if i = 0 then b else sh.getLsbD (i - 1)) := by
  unfold shiftIn
  cases b <;> cases i <;> simp

/-- Bit `i` of the value of a bit sequence is the element that stands `i` places before its last one, if it has one there. -/
theorem ofBitsMsbFirst_getLsbD (w : Nat) (bits : Bits) (i : Nat) :
    (ofBitsMsbFirst w bits).getLsbD i =
      (decide (i < w) && (decide (i < bits.length) && bits.getD (bits.length - 1 - i) false)) := by
  induction bits using List.reverseRecOn generalizing i with
  | nil => simp [ofBitsMsbFirst]
  | append_singleton l b ih =>
    have hstep : ofBitsMsbFirst w (l ++ [b]) = shiftIn (ofBitsMsbFirst w l) b := by simp [ofBitsMsbFirst]
    rw [hstep, shiftIn_getLsbD]
    cases i with
    | zero => simp
    | succ k =>
      have hidx : (l ++ [b]).length - 1 - (k + 1) = l.length - 1 - k := by
        rw [List.length_append, List.length_singleton]
        omega
      simp only [hidx, Nat.add_one_sub_one, ih, Nat.succ_ne_zero, if_false]
      by_cases hk : k < l.length
      · have : l.length - 1 - k < l.length := by omega
        by_cases hw : k + 1 < w
        · have hw' : k < w := by omega
          simp [hk, hw, hw', List.getElem?_append_left this]
        · simp [hw]
      · simp [hk]

/-- Eight bits are one byte of the result (R132). -/
theorem bitsToBytes_eight (b0 b1 b2 b3 b4 b5 b6 b7 : Bool) (rest : Bits) :
    bitsToBytes (b0 :: b1 :: b2 :: b3 :: b4 :: b5 :: b6 :: b7 :: rest) =
      ofBitsMsbFirst 8 [b0, b1, b2, b3, b4, b5, b6, b7] :: bitsToBytes rest := rfl

@[simp] theorem bytesToBits_nil : bytesToBits [] = [] := rfl

theorem bytesToBits_cons (b : Byte) (rest : Bytes) : bytesToBits (b :: rest) = bitsMsbFirst b ++ bytesToBits rest := rfl

end Sys2Proof.Machine
end

