-- ==== Sys2Proof/Laws/PerInstr.lean ====
section
/-! SUPPORT. A statement about every operation as syntax, one lemma per constructor: the fields of its command word are legal
(spec/30_encoding.md rules R100, R105). -/

namespace Sys2Proof.Laws.LegalWord

/-- The command word of the operation is legal, and it is one byte. -/
def Statement (i : Instr) : Prop := i.fields.wf = true ∧ (encode i).length = 1

theorem b2bits : Statement .b2bits := ⟨by decide, rfl⟩
theorem bits2b : Statement .bits2b := ⟨by decide, rfl⟩
theorem u32bits : Statement .u32bits := ⟨by decide, rfl⟩
theorem bitsu32 : Statement .bitsu32 := ⟨by decide, rfl⟩
theorem crc32 : Statement .crc32 := ⟨by decide, rfl⟩
theorem fecenc12 : Statement .fecenc12 := ⟨by decide, rfl⟩
theorem fecenc13 : Statement .fecenc13 := ⟨by decide, rfl⟩
theorem fecenc23 : Statement .fecenc23 := ⟨by decide, rfl⟩
theorem fecenc34 : Statement .fecenc34 := ⟨by decide, rfl⟩
theorem fecdec12 : Statement .fecdec12 := ⟨by decide, rfl⟩
theorem fecdec13 : Statement .fecdec13 := ⟨by decide, rfl⟩
theorem fecdec23 : Statement .fecdec23 := ⟨by decide, rfl⟩
theorem fecdec34 : Statement .fecdec34 := ⟨by decide, rfl⟩
theorem encframe (rate : Rate) : Statement (.encframe rate) := by cases rate <;> exact ⟨by decide, rfl⟩
theorem decframe (rate : Rate) : Statement (.decframe rate) := by cases rate <;> exact ⟨by decide, rfl⟩
theorem findpre : Statement .findpre := ⟨by decide, rfl⟩
theorem sstart : Statement .sstart := ⟨by decide, rfl⟩
theorem sstop : Statement .sstop := ⟨by decide, rfl⟩
theorem ssnap : Statement .ssnap := ⟨by decide, rfl⟩

end Sys2Proof.Laws.LegalWord
end

