-- ==== Sys2Proof/Laws/Step.lean ====
section
/-! SUPPORT. What a step can do, said once: an inversion lemma for `step`, one for `exec`, and the worker's step at each of its
positions. -/

namespace Sys2Proof.Machine

/-- The test of R260: a session can be started in `IDLE` and in `STOPPED`, and nowhere else. -/
theorem State.live_eq_false {s : State} : s.live = false ↔ s.record.fsm = .idle ∨ s.record.fsm = .stopped := by
  cases h : s.record.fsm <;> simp [State.live, h]

/-- `SSTART` in `IDLE` or `STOPPED` with a record that R260 accepts. -/
theorem execSstart_accepted {s : State} (h : s.record.fsm = .idle ∨ s.record.fsm = .stopped)
    (hv : s.operands.record.valid = true) :
    execSstart s = .next ((s.startSession s.operands.record).answered ⟨.ok, none, .none⟩) := by
  simp only [execSstart, State.live_eq_false.mpr h, hv]
  rfl

/-- A command's next state: the state with a response; or what an accepted `SSTART`, a refused one, or `SSTOP` also changes. -/
theorem exec_cases {i : Instr} {s t : State} (h : exec i s = .next t) :
    (∃ r, t = s.answered r) ∨
      (i = .sstart ∧ s.live = false ∧ s.operands.record.valid = true ∧
        t = (s.startSession s.operands.record).answered ⟨.ok, none, .none⟩) ∨
      (i = .sstart ∧ s.live = false ∧ s.operands.record.valid = false ∧
        t = (s.emit [.notify (.onFailed .configError)]).answered ⟨.configError, none, .none⟩) ∨
      (i = .sstop ∧ t = s.clearRunning.answered ⟨.ok, none, .none⟩) := by
  have hseq : ∀ {n : Nat} {r : Response}, sequenceCommand s n r = .next t → ∃ r, t = s.answered r := by
    intro n r h
    rcases sequenceCommand_spec s n r with ⟨-, e⟩ | ⟨-, e⟩ <;> rw [e] at h <;> exact ⟨_, by injection h with h; exact h.symm⟩
  have hans : ∀ {s' : State} {r : Response}, answer s' r = .next t → t = s'.answered r := by
    intro s' r h
    rw [answer_eq] at h
    injection h with h
    exact h.symm
  cases i with
  | b2bits => exact .inl (hseq h)
  | bits2b => exact .inl (hseq h)
  | u32bits => exact .inl ⟨_, hans h⟩
  | bitsu32 =>
    refine .inl ?_
    simp only [exec, execBitsu32] at h
    split at h
    · exact hseq h
    · exact ⟨_, hans h⟩
  | crc32 => exact .inl (hseq h)
  | fecenc12 => exact .inl (hseq h)
  | fecenc13 => exact .inl (hseq h)
  | fecenc23 => exact .inl (hseq h)
  | fecenc34 => exact .inl (hseq h)
  | fecdec12 => exact .inl (hseq h)
  | fecdec13 => exact .inl (hseq h)
  | fecdec23 => exact .inl (hseq h)
  | fecdec34 => exact .inl (hseq h)
  | encframe rate =>
    refine .inl ?_
    simp only [exec, execEncframe] at h
    split at h
    · exact hseq h
    · exact ⟨_, hans h⟩
  | decframe rate => exact .inl (hseq h)
  | findpre => exact .inl (hseq h)
  | sstart =>
    simp only [exec, execSstart] at h
    split at h
    · exact .inl ⟨_, hans h⟩
    · rename_i hl
      split at h
      · rename_i hv
        exact .inr (.inl ⟨rfl, by simpa using hl, hv, hans h⟩)
      · rename_i hv
        exact .inr (.inr (.inl ⟨rfl, by simpa using hl, by simpa using hv, hans h⟩))
  | sstop => exact .inr (.inr (.inr ⟨rfl, hans h⟩))
  | ssnap => exact .inl ⟨_, hans h⟩

/-- A step's next state: nothing moved; the worker took its step; a decoded command ran; or an illegal word was answered. -/
theorem step_cases {s t : State} (h : step s = .next t) :
    (s.inputs = [] ∧ t = s) ∨
      (∃ a b rest, s.inputs = .worker a b :: rest ∧ t = workerStep a b { s with inputs := rest }) ∨
      (∃ w o rest i, s.inputs = .command w o :: rest ∧ decodeWord w = .ok i ∧ exec i (s.acceptCommand o rest) = .next t) ∨
      (∃ w o rest e, s.inputs = .command w o :: rest ∧ decodeWord w = .error e ∧
        t = (s.acceptCommand o rest).answered ⟨.illegalCmd, none, .none⟩) := by
  unfold step at h
  split at h
  · rename_i hi
    injection h with h
    exact .inl ⟨hi, h.symm⟩
  · rename_i a b rest hi
    injection h with h
    exact .inr (.inl ⟨a, b, rest, hi, h.symm⟩)
  · rename_i w o rest hi
    refine .inr (.inr ?_)
    cases hd : decodeWord w with
    | ok i =>
      have hf : fetchCommand w = .ok i := by simp [fetchCommand, decode, hd]
      rw [hf] at h
      exact .inl ⟨w, o, rest, i, hi, hd, h⟩
    | error e =>
      have hf : fetchCommand w = .error e := by simp [fetchCommand, decode, hd]
      rw [hf] at h
      have h' : Host.Outcome.next ((s.acceptCommand o rest).answered ⟨.illegalCmd, none, .none⟩) = .next t := h
      injection h' with h'
      exact .inr ⟨w, o, rest, e, hi, hd, h'.symm⟩

/-! ### The worker at each of its positions -/

theorem workerStep_resting {s : State} (h : s.worker = .resting) (a b : RadioAnswer) : workerStep a b s = s := by
  simp [workerStep, h]

theorem workerStep_configure {s : State} (h : s.worker = .configure) (a b : RadioAnswer) :
    workerStep a b s = workerConfigure a s := by
  simp [workerStep, h]

theorem workerStep_build {s : State} (h : s.worker = .build) (a b : RadioAnswer) : workerStep a b s = workerBuild s := by
  simp [workerStep, h]

theorem workerStep_size {s : State} (h : s.worker = .size) (a b : RadioAnswer) : workerStep a b s = workerSize a s := by
  simp [workerStep, h]

theorem workerStep_transmit {s : State} (h : s.worker = .transmit) (a b : RadioAnswer) :
    workerStep a b s = workerTransmit a s := by
  simp [workerStep, h]

theorem workerStep_settle {s : State} (h : s.worker = .settle) (a b : RadioAnswer) : workerStep a b s = workerSettle s := by
  simp [workerStep, h]

theorem workerStep_poll {s : State} (h : s.worker = .poll) (a b : RadioAnswer) : workerStep a b s = workerPoll s := by
  simp [workerStep, h]

theorem workerStep_receive {s : State} (h : s.worker = .receive) (a b : RadioAnswer) :
    workerStep a b s = workerReceive a s := by
  simp [workerStep, h]

theorem workerStep_diagnose {s : State} (h : s.worker = .diagnose) (a b : RadioAnswer) :
    workerStep a b s = workerDiagnose s := by
  simp [workerStep, h]

theorem workerStep_attempt {s : State} (h : s.worker = .attempt) (a b : RadioAnswer) :
    workerStep a b s = workerAttempt s := by
  simp [workerStep, h]

theorem workerStep_finish {s : State} (h : s.worker = .finish) (a b : RadioAnswer) :
    workerStep a b s = s.leaveSession a b := by
  simp [workerStep, h, workerFinish]

/-- No worker step touches the open parameters, the session parameters, the operand port or the moves to come. -/
theorem workerStep_keeps (a b : RadioAnswer) (s : State) :
    (workerStep a b s).config = s.config ∧ (workerStep a b s).params = s.params ∧
      (workerStep a b s).operands = s.operands ∧ (workerStep a b s).inputs = s.inputs := by
  cases h : s.worker with
  | resting => simp [workerStep_resting h]
  | configure => rw [workerStep_configure h]; cases a <;> simp [workerConfigure, State.callOrFail, RadioAnswer.succeeded]
  | build => simp [workerStep_build h, workerBuild]
  | size => rw [workerStep_size h]; cases a <;> simp [workerSize, State.callOrFail, RadioAnswer.succeeded]
  | transmit => rw [workerStep_transmit h]; cases a <;> simp [workerTransmit, State.callOrFail, RadioAnswer.succeeded]
  | settle => simp [workerStep_settle h, workerSettle]
  | poll => rw [workerStep_poll h]; unfold workerPoll; split <;> [simp; (split <;> simp)]
  | receive => rw [workerStep_receive h]; cases a <;> simp [workerReceive, State.callOrFail, RadioAnswer.succeeded]
  | diagnose => simp [workerStep_diagnose h, workerDiagnose]
  | attempt => rw [workerStep_attempt h]; unfold workerAttempt; split <;> simp
  | finish =>
    rw [workerStep_finish h]
    obtain ⟨h1, -, -, h2, h3, h4⟩ := leaveSession_rest s a b
    exact ⟨h2, h1, h3, h4⟩

end Sys2Proof.Machine
end

