-- ==== Sys2Proof/Laws/Sync.lean ====
section
/-! SUPPORT. The scan loop of the Synchronizer, said once. -/

namespace Sys2Proof.Machine

/-- The update keeps the better of the two, and the earlier on a tie (R233). -/
theorem bestUpdate_spec (best : Best) (count offset : Nat) :
    (best.count < count ∧ best.update count offset = ⟨count, offset⟩) ∨
      ((count : Int) ≤ best.count ∧ best.update count offset = best) := by
  unfold Best.update
  by_cases h : best.count < (count : Int)
  · exact .inl ⟨h, by simp [h]⟩
  · exact .inr ⟨by omega, by simp [h]⟩

/-- One turn of the loop: it ends after this offset at a count of 62 or more, and else goes on one offset further (R231, R235). -/
theorem scan_turn (k : Nat) (window : Bits) (off : Nat) (best : Best) :
    (62 ≤ matchCount window ∧ scan (k + 1) window off best = best.update (matchCount window) off) ∨
      (matchCount window < 62 ∧
        scan (k + 1) window off best = scan k (window.drop 1) (off + 1) (best.update (matchCount window) off)) := by
  by_cases h : 62 ≤ matchCount window
  · exact .inl ⟨h, by simp [scan, earlyExitCount, h]⟩
  · exact .inr ⟨by omega, by simp [scan, earlyExitCount, h]⟩

/-- The best count never falls, and the best offset is the one at hand or one of the offsets scanned. -/
theorem scan_improves (k : Nat) (window : Bits) (off : Nat) (best : Best) :
    best.count ≤ (scan k window off best).count ∧
      (scan k window off best = best ∨
        ∃ j, j < k ∧ scan k window off best = ⟨matchCount (window.drop j), off + j⟩) := by
  induction k generalizing window off best with
  | zero => exact ⟨Int.le_refl _, .inl rfl⟩
  | succ k ih =>
    have hup : best.count ≤ (best.update (matchCount window) off).count ∧
        (best.update (matchCount window) off = best ∨
          best.update (matchCount window) off = ⟨matchCount window, off⟩) := by
      rcases bestUpdate_spec best (matchCount window) off with ⟨hlt, e⟩ | ⟨-, e⟩
      · rw [e]; exact ⟨by show best.count ≤ ((matchCount window : Nat) : Int); omega, .inr rfl⟩
      · rw [e]; exact ⟨Int.le_refl _, .inl rfl⟩
    rcases scan_turn k window off best with ⟨-, e⟩ | ⟨-, e⟩
    · rw [e]
      exact ⟨hup.1, hup.2.imp id fun h => ⟨0, by omega, by simpa using h⟩⟩
    · obtain ⟨hle, hcase⟩ := ih (window.drop 1) (off + 1) (best.update (matchCount window) off)
      rw [e]
      refine ⟨Int.le_trans hup.1 hle, ?_⟩
      rcases hcase with h | ⟨j, hj, h⟩
      · rw [h]
        exact hup.2.imp id fun h => ⟨0, by omega, by simpa using h⟩
      · exact .inr ⟨j + 1, by omega, by rw [h]; simp [Nat.add_comm 1 j, Nat.add_assoc]⟩

/-- No count is above 64 (R234). -/
theorem matchCount_le (window : Bits) : matchCount window ≤ 64 := by
  unfold matchCount agreements
  refine Nat.le_trans List.count_le_length ?_
  rw [List.length_zipWith]
  exact Nat.le_trans (Nat.min_le_right _ _) (by decide)

end Sys2Proof.Machine
end

