-- ==== Sys2Proof/Tests/Slice0.lean ====
section
/-! SUPPORT. Tests of the model against the words of spec/30_encoding.md and the vectors of spec/95_test_vectors.md (their ids stand
in the docstrings), and for every obligation with hypotheses a witness that they can all be met. -/

namespace Sys2Proof.Tests

open Sys2Proof Sys2Proof.Machine

/-! ### Helpers -/

/-- The state after reset with these operands at the port. -/
def atPort (bytes : Bytes) (bits : Bits) (word : U32 := 0) (start : Nat := 0) : State :=
  { State.reset with operands := { Operands.reset with bytes := bytes, bits := bits, word := word, start := start } }

/-- The last response of the next state. -/
def answerOf : Host.Outcome State Fault Refusal → Option Response
  | .next t => match t.trace.getLast? with
    | some (.response r) => some r
    | _ => none
  | _ => none

/-- The bits of a hexadecimal numeral: the notation of rule R13. -/
def hexBits (n : Nat) (x : Nat) : Bits := bitsMsbFirst (BitVec.ofNat n x)

/-- A sequence with the bits at some positions inverted. -/
def flipped (positions : List Nat) (bits : Bits) : Bits := positions.foldl (fun b i => b.modify i not) bits

/-- The bytes of "HELLO". -/
def hello : Bytes := [0x48, 0x45, 0x4C, 0x4C, 0x4F]

/-- Vector F1: the frame of "HELLO" at rate 1/2. -/
def frameF1 : Bits := hexBits 208 0xB4E5B4E5B4E5B4E500000005C144643630C0303330F030F030FF

/-- Vector F10: the frame of "A" at rate 2/3. -/
def frameF10 : Bits := hexBits 140 0xB4E5B4E5B4E5B4E500000001D3D99E8B603

/-- The operand record of program P4, with this budget. -/
def helloRecord (maxReads : BitVec 32) : StartRecord :=
  { present := true, bytes := hello, displayName := [0x6D, 0x73, 0x67], kind := .text,
    params := { SessionParams.reset with sps := 4, maxReads := maxReads } }

/-- The state after reset with this record at the port. -/
def withRecord (r : StartRecord) : State := { State.reset with operands := { Operands.reset with record := r } }

/-- The state right after an accepted `SSTART`, with these moves to come. -/
def started (maxReads : BitVec 32) (inputs : List Input) : State :=
  { State.reset.startSession (helloRecord maxReads) with inputs := inputs }

/-- A state with the worker at this step, `S` so, and these moves to come. -/
def workerAt (w : WorkerStep) (f : SessionState) (inputs : List Input) : State :=
  let s := started 10 inputs
  { s with worker := w, record := { s.record with fsm := f } }

/-- A turn of the worker in which every device call returns. -/
def turn : Input := .worker (.returned []) (.returned [])

/-! ### What the well-formedness checks refuse -/

theorem test_wf_refuses_reserved_op : (fieldsOf 0xD0).opAssigned = false ∧ (fieldsOf 0xD0).wf = false := by decide
theorem test_wf_refuses_zero_field : (fieldsOf 0x54).zeroClear = false ∧ (fieldsOf 0x54).wf = false := by decide
theorem test_wf_refuses_rate_field : (fieldsOf 0x93).rateAllowed = false ∧ (fieldsOf 0x93).wf = false := by decide
theorem test_wf_accepts_rated : (fieldsOf 0x53).wf = true ∧ (fieldsOf 0x83).wf = true ∧ (fieldsOf 0xC0).wf = true := by decide
theorem test_config_refuses_amplitude : Config.wf { Config.reference with txAmplitude := 0 } = false := by decide +kernel
theorem test_config_refuses_capacity : Config.wf { Config.reference with snrHistCap := 0 } = false := by decide +kernel

/-! ### Decoding: words written out field by field from R100 and R102 -/

theorem test_decode_unrated :
    [0b00000000, 0b00010000, 0b00100000, 0b00110000, 0b01000000, 0b10010000, 0b10100000, 0b10110000, 0b11000000].map
      (fun w : Byte => (decodeWord w).toOption) =
    [some .b2bits, some .bits2b, some .u32bits, some .bitsu32, some .crc32, some .findpre, some .sstart, some .sstop,
     some .ssnap] := by decide
theorem test_decode_fec :
    [0b01010000, 0b01010001, 0b01010010, 0b01010011, 0b01100000, 0b01100001, 0b01100010, 0b01100011].map
      (fun w : Byte => (decodeWord w).toOption) =
    [some .fecenc12, some .fecenc13, some .fecenc23, some .fecenc34, some .fecdec12, some .fecdec13, some .fecdec23,
     some .fecdec34] := by decide
theorem test_decode_frames :
    [0b01110000, 0b01110001, 0b01110010, 0b01110011, 0b10000000, 0b10000001, 0b10000010, 0b10000011].map
      (fun w : Byte => (decodeWord w).toOption) =
    [some (.encframe .r12), some (.encframe .r13), some (.encframe .r23), some (.encframe .r34), some (.decframe .r12),
     some (.decframe .r13), some (.decframe .r23), some (.decframe .r34)] := by decide
/-- The illegal words of part 2.8. -/
theorem test_decode_illegal :
    ([0x01, 0x41, 0x93, 0xA1, 0x54, 0x78, 0x0C, 0xD0, 0xE0, 0xFF] : List Byte).map (fun w => (decodeWord w).toOption) =
    List.replicate 10 none := by decide
theorem test_decode_no_word : decode [] = .error .noWord := rfl
theorem test_encode_word : encode (.encframe .r34) = [0x73] ∧ encode .fecdec23 = [0x62] ∧ encode .ssnap = [0xC0] := by decide
theorem test_decode_table_word : decodeTableWord 8 0x73 = some (.encframe .r34) ∧ decodeTableWord 8 0xA1 = none := by decide
/-- The command `withFetchWord` presents runs in the very next step: `SSNAP` from reset. -/
theorem test_fetch_word_runs : answerOf (step (State.reset.withFetchWord 8 0xC0)) =
    some ⟨.ok, none, .snapshot State.reset.snapshot⟩ := by decide

/-! ### The Bit/Byte Codec -/

/-- B1. -/
theorem test_b2bits : answerOf (exec .b2bits (atPort [0xA5, 0x3C] [])) = some ⟨.ok, none, .bits (hexBits 16 0xA53C)⟩ := by decide
/-- B3, by its digits. -/
theorem test_b2bits_digits : bytesToBits [0x80, 0x01] =
    [true, false, false, false, false, false, false, false, false, false, false, false, false, false, false, true] := by decide
/-- B5: 7 of 15 bits are dropped. -/
theorem test_bits2b_drops : answerOf (exec .bits2b (atPort [] ((hexBits 16 0xA53C).take 15))) =
    some ⟨.ok, none, .bytes [0xA5]⟩ := by decide
/-- B8. -/
theorem test_u32bits : answerOf (exec .u32bits (atPort [] [] 5)) =
    some ⟨.ok, none, .bits (List.replicate 29 false ++ [true, false, true])⟩ := by decide
/-- B12. -/
theorem test_bitsu32 : answerOf (exec .bitsu32 (atPort [] (preamble.take 32))) = some ⟨.ok, none, .word 0xB4E5B4E5⟩ := by decide
/-- B13. -/
theorem test_bitsu32_length : answerOf (exec .bitsu32 (atPort [] (List.replicate 31 true))) = some ⟨.badOperand, none, .none⟩ ∧
    answerOf (exec .bitsu32 (atPort [] (List.replicate 33 true))) = some ⟨.badOperand, none, .none⟩ := by decide

/-! ### The CRC Engine -/

/-- K2. -/
theorem test_crc_check_value : answerOf (exec .crc32 (atPort [0x31, 0x32, 0x33, 0x34, 0x35, 0x36, 0x37, 0x38, 0x39] [])) =
    some ⟨.ok, none, .word 0xCBF43926⟩ := by decide +kernel
/-- K1, K3, K10 to K13, and the spot checks of the table. -/
theorem test_crc_values : [crc32 [], crc32 hello, crc32 [0x00], crc32 [0xFF], crc32 [0, 0, 0, 0], crc32 [0xFF, 0xFF, 0xFF, 0xFF],
      crcTable.getD 1 0, crcTable.getD 128 0, crcTable.getD 255 0] =
    [0x00000000, 0xC1446436, 0xD202EF8D, 0xFF000000, 0x2144DF1C, 0xFFFFFFFF, 0x77073096, 0xEDB88320, 0x2D02EF8D] := by
  decide +kernel
/-- The printed table is the one R154 computes from the bitwise loop. -/
theorem test_crc_table : crcTable = (List.range 256).map (fun n => crcEight (BitVec.ofNat 32 n)) := by decide +kernel

/-! ### The FEC Codec (parts 2.3 and 2.4) -/

theorem test_fecenc12 : answerOf (exec .fecenc12 (atPort [] (hexBits 5 0b10110))) =
    some ⟨.ok, none, .bits (hexBits 10 0b1100111100)⟩ := by decide
theorem test_fecenc13 : answerOf (exec .fecenc13 (atPort [] (hexBits 4 0b1011))) =
    some ⟨.ok, none, .bits (hexBits 12 0b111000111111)⟩ := by decide
theorem test_fecenc23 : answerOf (exec .fecenc23 (atPort [] (hexBits 8 0b10110010))) =
    some ⟨.ok, none, .bits (hexBits 12 0b101110000101)⟩ := by decide
theorem test_fecenc23_odd : answerOf (exec .fecenc23 (atPort [] (hexBits 7 0b1011001))) =
    some ⟨.ok, none, .bits (hexBits 12 0b101110000101)⟩ := by decide
theorem test_fecenc34 : answerOf (exec .fecenc34 (atPort [] (hexBits 7 0b1011001))) =
    some ⟨.ok, none, .bits (hexBits 12 0b101110011000)⟩ := by decide
theorem test_fecenc34_two_bit_tail : answerOf (exec .fecenc34 (atPort [] (hexBits 5 0b10110))) =
    some ⟨.ok, none, .bits (hexBits 8 0b10111000)⟩ := by decide
/-- D1. -/
theorem test_fecdec12 : answerOf (exec .fecdec12 (atPort [] (hexBits 9 0b011000111))) =
    some ⟨.ok, none, .bits (hexBits 4 0b1101)⟩ := by decide
/-- D3. -/
theorem test_fecdec13 : answerOf (exec .fecdec13 (atPort [] (hexBits 17 0b00101110111010011))) =
    some ⟨.ok, none, .bits (hexBits 5 0b01110)⟩ := by decide
/-- D5. -/
theorem test_fecdec23 : answerOf (exec .fecdec23 (atPort [] (hexBits 8 0b10101011))) =
    some ⟨.ok, none, .bits (hexBits 6 0b100111)⟩ := by decide
/-- D6. -/
theorem test_fecdec23_one_bit_tail : answerOf (exec .fecdec23 (atPort [] (hexBits 4 0b1010))) =
    some ⟨.ok, none, .bits (hexBits 3 0b100)⟩ := by decide
/-- D8. -/
theorem test_fecdec34 : answerOf (exec .fecdec34 (atPort [] (hexBits 11 0b10100111101))) =
    some ⟨.ok, none, .bits (hexBits 9 0b101011101)⟩ := by decide
/-- D11. -/
theorem test_fecdec34_parity : fecDecode34 (hexBits 4 0b1001) = hexBits 3 0b100 ∧
    fecDecode34 (hexBits 4 0b1000) = hexBits 3 0b100 := by decide

/-! ### The Frame Codec (part 2.5) -/

/-- F1. -/
theorem test_encframe12 : answerOf (exec (.encframe .r12) (atPort hello [])) = some ⟨.ok, none, .bits frameF1⟩ := by decide +kernel
/-- F5: a partial group at rate 3/4. -/
theorem test_encframe34 : answerOf (exec (.encframe .r34) (atPort [0x41] [])) =
    some ⟨.ok, none, .bits (hexBits 140 0xB4E5B4E5B4E5B4E500000001D3D99E8B504)⟩ := by decide +kernel
/-- F1 back, F16, F13, F14, F12, F21: payload, tolerated damage, and the sub-codes. -/
theorem test_decframe12 :
    [decodeFrame frameF1 64 .r12, decodeFrame (flipped [130] frameF1) 64 .r12, decodeFrame (frameF1.take 207) 64 .r12,
     decodeFrame (flipped [127] frameF1) 64 .r12, decodeFrame (flipped [64] frameF1) 64 .r12, decodeFrame frameF1 145 .r12].map
      decodeFrameResponse =
    [⟨.ok, none, .bytes hello⟩, ⟨.ok, none, .bytes hello⟩, ⟨.none, some .shortPayload, .none⟩, ⟨.none, some .crcMismatch, .none⟩,
     ⟨.none, some .lenRange, .none⟩, ⟨.none, some .shortHeader, .none⟩] := by decide +kernel
/-- F29, F30: `"A"` at rate 3/4 with its last bit removed, and with its last two. -/
theorem test_decframe34 :
    [139, 138].map (fun n => answerOf (exec (.decframe .r34)
      (atPort [] ((hexBits 140 0xB4E5B4E5B4E5B4E500000001D3D99E8B504).take n) 0 64))) =
    [some ⟨.ok, none, .bytes [0x41]⟩, some ⟨.none, some .shortPayload, .none⟩] := by decide +kernel

/-! ### The Synchronizer (part 2.6) -/

/-- Y4, Y3, and a frame start found behind zero bits. -/
theorem test_findpre : [preamble ++ List.replicate 63 false, preamble ++ List.replicate 64 false,
      List.replicate 10 false ++ preamble ++ List.replicate 64 false].map (fun b => answerOf (exec .findpre (atPort [] b))) =
    [some ⟨.none, none, .none⟩, some ⟨.ok, none, .index 0⟩, some ⟨.ok, none, .index 10⟩] := by decide +kernel
/-- Y12, Y13 without the padding: 6 errors are accepted, 7 are not. -/
theorem test_findpre_threshold :
    findPreamble 0 (flipped [0, 9, 18, 27, 36, 45] preamble ++ List.replicate 64 false) = some 0 ∧
    findPreamble 0 (flipped [0, 9, 18, 27, 36, 45, 54] preamble ++ List.replicate 64 false) = none := by decide +kernel

/-! ### The session commands (program P6) -/

/-- An accepted `SSTART` latches, resets the session and leaves `S` as it is. -/
theorem test_sstart_accepts : answerOf (exec .sstart (withRecord (helloRecord 10))) = some ⟨.ok, none, .none⟩ ∧
    (started 10 []).record.fsm = .idle ∧ (started 10 []).record.running = true := by decide +kernel
/-- `SSTART` with no payload is `CONFIG_ERROR`; while a session is live it is `BUSY`; before R262 `S` is still `IDLE`, and a second one
is accepted. -/
theorem test_sstart_refuses :
    answerOf (exec .sstart (withRecord { helloRecord 10 with present := false })) = some ⟨.configError, none, .none⟩ ∧
    answerOf (exec .sstart (workerAt .poll .listening [])) = some ⟨.busy, none, .none⟩ ∧
    answerOf (exec .sstart { started 10 [] with operands := (withRecord (helloRecord 3)).operands }) = some ⟨.ok, none, .none⟩ := by
  decide +kernel
/-- `SSTOP` clears `RUNNING` and nothing else of the record. -/
theorem test_sstop : ∃ t, exec .sstop (workerAt .poll .listening []) = .next t ∧ t.record.running = false ∧
    t.record.fsm = .listening ∧ t.worker = .poll := ⟨_, rfl, rfl, rfl, rfl⟩
/-- `SSNAP` copies the record. -/
theorem test_ssnap : answerOf (exec .ssnap (workerAt .poll .listening [])) =
    some ⟨.ok, none, .snapshot (workerAt .poll .listening []).snapshot⟩ := by decide +kernel

/-! ### The session worker and the boundary functions (part 2.7, programs P4 and P6) -/

/-- W1: `FRAME_SAMPLES = 832`. -/
theorem test_worker_build : (workerBuild (workerAt .build .configured [])).record.frameSamples = 832 := by decide +kernel
/-- W1 to W3. -/
theorem test_receive_window : [832, 262656, 1921024].map receiveWindow = [262144, 328320, 2097152] := by decide
/-- A failed device call: `FAILED` with `DEVICE_ERROR`, then the releases, the report and `STOPPED`. -/
theorem test_device_error :
    let t := workerTransmit .failed (workerAt .transmit .configured [])
    (t.record.fsm, t.record.failReason, t.record.framesTx, t.worker) = (.failed, .deviceError, 0, .finish) ∧
    ((workerFinish .failed .failed t).record.fsm, (workerFinish .failed .failed t).trace.getLast?) =
      (.stopped, some (.notify (.onFailed .deviceError))) := by decide +kernel
/-- M1, M2, M3. -/
theorem test_mapper_detector :
    mapFrame 1 [true, false, true] 2 = [1, 1, -1, -1, 1, 1].map (fun x => ⟨x, 0⟩) ∧
    detect (mapFrame 1 [true, false, true] 2) 2 = [true, false, true] ∧
    detect ([2 / 5, -1 / 10, -3 / 10, 3 / 10, -2, 1, 1].map fun x => ⟨x, 0⟩) 2 = [true, false, false] := by decide +kernel
/-- A failed `receive` does not end the replay and leaves the size; the buffer of one that returns has `RXBUF_SIZE` samples (R39, R71). -/
theorem test_receive :
    let s := workerAt .receive .listening []
    let s := { s with radio := ⟨true, 3, true, false⟩, record := { s.record with rxBufSize := 3 } }
    (workerReceive .failed s).radio.txArmed = true ∧ (workerReceive .failed s).radio.rxSize = 3 ∧
    (workerReceive (.returned [⟨1, 0⟩]) s).rxBuffer = [⟨1, 0⟩, ⟨0, 0⟩, ⟨0, 0⟩] :=
  ⟨radioCall_txArmed (by simp) rfl _, radioCall_rxSize (by simp) _, by decide +kernel⟩
/-- The history evicts its oldest entry at capacity (R35). -/
theorem test_snr_append : snrAppend 2 [.unstated 0, .tenLog10 2 0] (.tenLog10 3 0) = [.tenLog10 2 0, .tenLog10 3 0] := by decide +kernel

/-! ### Witnesses: the hypotheses of each obligation can be met together, clause by clause, at the boundary values

The command word and its delivery. -/

/-- CommandWordMap: the lowest and the highest word with a reserved `OP`. -/
theorem witness_reserved_op : 0xD ≤ (0xD0 : Byte).toNat / 16 ∧ 0xD ≤ (0xFF : Byte).toNat / 16 ∧ ¬ 0xD ≤ (0xCF : Byte).toNat / 16 := by
  decide

/-- IllegalWordAnswered: a state whose next move presents the word A1. -/
theorem witness_illegal_word : ({ State.reset with inputs := [.command 0xA1 Operands.reset] } : State).inputs =
      .command 0xA1 Operands.reset :: [] ∧ ¬ ∃ i, decodeWord 0xA1 = .ok i :=
  ⟨rfl, fun ⟨_, h⟩ => nomatch (show decodeWord 0xA1 = .error .rateFieldSet from rfl).symm.trans h⟩

/-- DecodeEncodeAgree, second clause: the words of program P1. -/
theorem witness_decode_all : decodeAll [0x40, 0x20, 0x00, 0x52] = .ok [.crc32, .u32bits, .b2bits, .fecenc23] := rfl

/-- StepRunsDecodedCommand, both clauses. -/
theorem witness_step_runs : ({ State.reset with inputs := [.command 0x72 Operands.reset, turn] } : State).inputs =
      .command 0x72 Operands.reset :: [turn] ∧ decode [0x72] = .ok (.encframe .r23, []) ∧
    decodeTableWord 8 0x72 = some (.encframe .r23) := ⟨rfl, rfl, rfl⟩

/-- StepTakesNextMove, its three clauses. -/
theorem witness_next_move : State.reset.inputs = [] ∧ (workerAt .poll .listening [turn]).inputs = turn :: [] ∧
    (workerAt .resting .stopped [turn]).inputs = turn :: [] ∧ (workerAt .resting .stopped [turn]).worker = .resting :=
  ⟨rfl, rfl, rfl, rfl⟩

/-! Operand domains. -/

/-- OperandDomains, first clause: one element above `MAX_SEQ`; last clause: as many as `MAX_SEQ`. -/
theorem witness_max_seq : ∀ i ∈ [Instr.bits2b, .fecenc12, .fecdec34, .decframe .r13, .findpre],
    let s : State := { atPort [] [true, true, true, true] with config := { Config.reference with maxSeq := some 3 } }
    let t : State := { atPort [] [true, true, true] with config := { Config.reference with maxSeq := some 3 } }
    sequenceLength s i = some 4 ∧ s.config.maxSeq = some 3 ∧ 3 < 4 ∧ sequenceLength t i = some 3 ∧ t.within 3 := by
  simp [sequenceLength, atPort, State.within, Operands.reset]

/-- OperandDomains and BitsToU32Result: the lengths on both sides of 32, and 32. -/
theorem witness_bitsu32 : (atPort [] (List.replicate 31 true)).operands.bits.length ≠ 32 ∧
    (atPort [] (List.replicate 33 true)).operands.bits.length ≠ 32 ∧
    (atPort [] (List.replicate 32 true)).operands.bits.length = 32 ∧ (atPort [] (List.replicate 32 true)).within 32 :=
  ⟨by decide, by decide, by decide, fun _ h => by cases h⟩

/-- OperandDomains: a payload of 2^32 bytes for `ENCFRAME`, and the longest it takes. -/
theorem witness_payload_length : 2 ^ 32 - 1 < (atPort (List.replicate (2 ^ 32) 0) []).operands.bytes.length ∧
    (atPort (List.replicate (2 ^ 32 - 1) 0) []).operands.bytes.length ≤ 2 ^ 32 - 1 := by
  simp [-List.reduceReplicate, atPort]

/-- OperandDomains: a start index equal to the length, and one above it. -/
theorem witness_start : (atPort [] [true] 0 1).within 1 ∧
    (atPort [] [true] 0 1).operands.bits.length ≤ (atPort [] [true] 0 1).operands.start ∧
    (atPort [] [true] 0 2).operands.bits.length ≤ (atPort [] [true] 0 2).operands.start :=
  ⟨fun _ h => (by cases h), by decide, by decide⟩

/-- The results of the byte and bit operations: an empty operand and one of any length are within an unbounded `MAX_SEQ`, and one as
long as a bounded `MAX_SEQ` is within it. -/
theorem witness_within : (∀ (a : Bytes) (b : Bits) (n : Nat), (atPort a b).within n) ∧
    ({ atPort hello [] with config := { Config.reference with maxSeq := some 5 } } : State).within hello.length :=
  ⟨fun _ _ _ _ h => (by cases h), fun m h => (by cases h; decide)⟩

/-! The codecs. -/

/-- BytesToBitsResult, BitsToBytesResult, U32ToBitsResult: the last element and the last bit of an operand. -/
theorem witness_codec_positions : (4 : Nat) < hello.length ∧ (7 : Nat) < 8 ∧ (0 : Nat) < (bitsToBytes (hexBits 15 1)).length ∧
    (31 : Nat) < 32 := by decide

/-- CodecRoundTrips, CodecLengthsAndConcatenation: lengths 32, 8 and 0. -/
theorem witness_codec_lengths : (preamble.take 32).length = 32 ∧ (hexBits 8 1).length % 8 = 0 ∧ ([] : Bits).length % 8 = 0 := by
  decide

/-- Crc32DetectsSingleBitErrors: "HELLO" and a payload that differs from it in the lowest bit of the last byte. -/
theorem witness_single_bit : hello.length = [0x48, 0x45, 0x4C, 0x4C, (0x4E : Byte)].length ∧
    (List.zipWith (fun x y => x != y) (bytesToBits hello) (bytesToBits [0x48, 0x45, 0x4C, 0x4C, 0x4E])).count true = 1 := by
  decide

/-- FecEncode23Result: the last full pair, and the odd last bit. -/
theorem witness_fecenc23 : (hexBits 5 0b10110)[2 * 1]? = some true ∧ (hexBits 5 0b10110)[2 * 1 + 1]? = some true ∧
    (hexBits 5 0b10110).length = 2 * 2 + 1 ∧ (hexBits 5 0b10110)[2 * 2]? = some false := by decide

/-- FecEncode34Result: the last full triple, a tail of one bit, and a tail of two. -/
theorem witness_fecenc34 : (hexBits 4 0b1011)[3 * 0]? = some true ∧ (hexBits 4 0b1011)[3 * 0 + 1]? = some false ∧
    (hexBits 4 0b1011)[3 * 0 + 2]? = some true ∧ (hexBits 4 0b1011).length = 3 * 1 + 1 ∧ (hexBits 4 0b1011)[3 * 1]? = some true ∧
    (hexBits 5 0b10110).length = 3 * 1 + 2 ∧ (hexBits 5 0b10110)[3 * 1]? = some true ∧
    (hexBits 5 0b10110)[3 * 1 + 1]? = some false := by decide

/-- FecDecode12Result and FecDecode13Result: the last full group of D1 and of D3. -/
theorem witness_fecdec_votes : (hexBits 9 0b011000111)[2 * 3]? = some true ∧ (hexBits 9 0b011000111)[2 * 3 + 1]? = some true ∧
    (hexBits 17 0b00101110111010011)[3 * 4]? = some true ∧ (hexBits 17 0b00101110111010011)[3 * 4 + 1]? = some false ∧
    (hexBits 17 0b00101110111010011)[3 * 4 + 2]? = some false := by decide

/-- FecDecode23Result and FecDecode34Result: a data position of the partial group of D5 and of D8. -/
theorem witness_fecdec_tails : 1 < 2 ∧ 3 * 2 + 1 < (hexBits 8 0b10101011).length ∧ 2 < 3 ∧
    4 * 2 + 2 < (hexBits 11 0b10100111101).length := by decide

/-- EncodedLengthAndExpansion and FecEncodesByGroup: lengths at a group boundary, 0 among them. -/
theorem witness_groups : 8 % 2 = 0 ∧ 24 % 3 = 0 ∧ (hexBits 2 1).length % 2 = 0 ∧ (hexBits 3 1).length % 3 = 0 ∧ 0 % 3 = 0 := by decide

/-- FecErrorAbsorption, first two clauses: two data bits and what was received for them. -/
theorem witness_absorption_votes : (hexBits 4 0b0111).length = 2 * [true, false].length ∧ [true, false][1]? = some false ∧
    (hexBits 6 0b011001).length = 3 * [true, false].length ∧ [true, false][0]? = some true := by decide

/-- FecErrorAbsorption, last two clauses: sequences that differ in a parity position and nowhere else. -/
theorem witness_absorption_parity : (hexBits 3 0b101).length = (hexBits 3 0b100).length ∧
    (∀ i, i % 3 ≠ 2 → (hexBits 3 0b101)[i]? = (hexBits 3 0b100)[i]?) ∧ hexBits 3 0b101 ≠ hexBits 3 0b100 ∧
    (hexBits 4 0b1011).length = (hexBits 4 0b1010).length ∧
    (∀ i, i % 4 ≠ 3 → (hexBits 4 0b1011)[i]? = (hexBits 4 0b1010)[i]?) ∧ hexBits 4 0b1011 ≠ hexBits 4 0b1010 := by
  refine ⟨by decide, fun i h => ?_, by decide, by decide, fun i h => ?_, by decide⟩
  · rcases i with _ | _ | _ | i
    · rfl
    · rfl
    · exact absurd rfl h
    · rfl
  · rcases i with _ | _ | _ | _ | i
    · rfl
    · rfl
    · rfl
    · exact absurd rfl h
    · rfl

/-! Frames. -/

/-- PreambleConstant: its last position. -/
theorem witness_preamble_position : 63 < 64 := by decide

/-- EncodeFrameResult: the longest payload of the domain and the empty one. -/
theorem witness_encframe : (∀ n, n ≤ 2 ^ 32 - 1 → (atPort (List.replicate n 0) []).operands.bytes.length ≤ 2 ^ 32 - 1 ∧
    (atPort (List.replicate n 0) []).within (List.replicate n (0 : Byte)).length) ∧ (0 : Nat) ≤ 2 ^ 32 - 1 := by
  refine ⟨fun n h => ⟨by simpa [-List.reduceReplicate, atPort] using h, fun _ h => by cases h⟩, by decide⟩

/-- DecodeFrameResult: a sequence and a start index for each clause, in order: one bit too few for a header; LENGTH 0 and LENGTH
50,000,001 on a header and nothing more; LENGTH 50,000,000 there; F1 with a bit of its CRC inverted; F1. -/
theorem witness_decframe :
    frameF1.length < 145 + 64 ∧
    (64 + 64 ≤ (frameF1.take 64 ++ List.replicate 64 false).length ∧
      (bitsToU32 (((frameF1.take 64 ++ List.replicate 64 false).drop 64).take 32)).toNat = 0) ∧
    (0 + 64 ≤ (hexBits 64 0x02FAF08100000000).length ∧
      50000000 < (bitsToU32 (((hexBits 64 0x02FAF08100000000).drop 0).take 32)).toNat) ∧
    (0 + 64 ≤ (hexBits 64 0x02FAF08000000000).length ∧
      (bitsToU32 (((hexBits 64 0x02FAF08000000000).drop 0).take 32)).toNat = 50000000 ∧
      (hexBits 64 0x02FAF08000000000).length < 0 + 64 + encLen (8 * 50000000) .r12) ∧
    (64 + 64 + encLen (8 * 5) .r12 ≤ (flipped [127] frameF1).length ∧
      (bitsToU32 (((flipped [127] frameF1).drop 64).take 32)).toNat = 5 ∧
      crc32 (bitsToBytes ((fecDecode .r12 (((flipped [127] frameF1).drop (64 + 64)).take (encLen (8 * 5) .r12))).take (8 * 5))) ≠
        bitsToU32 (((flipped [127] frameF1).drop (64 + 32)).take 32)) ∧
    (64 + 64 + encLen (8 * 5) .r12 ≤ frameF1.length ∧ (bitsToU32 ((frameF1.drop 64).take 32)).toNat = 5 ∧
      crc32 (bitsToBytes ((fecDecode .r12 ((frameF1.drop (64 + 64)).take (encLen (8 * 5) .r12))).take (8 * 5))) =
        bitsToU32 ((frameF1.drop (64 + 32)).take 32)) := by
  refine ⟨by decide +kernel, ⟨by decide +kernel, by decide +kernel⟩, ⟨by decide +kernel, by decide +kernel⟩,
    ⟨by decide +kernel, by decide +kernel, by decide +kernel⟩, ⟨by decide +kernel, by decide +kernel, by decide +kernel⟩,
    ⟨by decide +kernel, by decide +kernel, by decide +kernel⟩⟩

/-- FrameRoundTrip: the shortest and the longest payload of the decode domain, and those next to it. -/
theorem witness_round_trip : (1 ≤ [(0x41 : Byte)].length ∧ [(0x41 : Byte)].length ≤ 50000000) ∧
    (1 ≤ (List.replicate 50000000 (0x41 : Byte)).length ∧ (List.replicate 50000000 (0x41 : Byte)).length ≤ 50000000) ∧
    (([] : Bytes).length = 0 ∧ ([] : Bytes).length ≤ 2 ^ 32 - 1) ∧
    (50000000 < (List.replicate 50000001 (0x41 : Byte)).length ∧ (List.replicate 50000001 (0x41 : Byte)).length ≤ 2 ^ 32 - 1) := by
  simp [-List.reduceReplicate]

/-- TruncatedFrameParses: `"A"` at rate 3/4 cut to 139 bits, to 138, and to its header. -/
theorem witness_truncated : (1 ≤ [(0x41 : Byte)].length ∧ [(0x41 : Byte)].length ≤ 50000000) ∧
    128 + encLen (8 * [(0x41 : Byte)].length) .r34 ≤ 139 ∧ 138 < 128 + encLen (8 * [(0x41 : Byte)].length) .r34 ∧
    (128 ≤ 128 ∧ 128 < 128 + encLen (8 * [(0x41 : Byte)].length) .r34) := by decide

/-- UnreadBitsHaveNoEffect: F10, and F10 with a preamble bit and a parity bit inverted. -/
theorem witness_unread : frameF10.length = (flipped [3, 130] frameF10).length ∧
    decodeFrame frameF10 64 .r23 = .ok [0x41] ∧ flipped [3, 130] frameF10 ≠ frameF10 ∧
    ∀ i, 64 ≤ i → i < 64 + 64 + encLen (8 * [(0x41 : Byte)].length) .r23 →
      (Rate.r23 = .r23 → 64 + 64 ≤ i → (i - (64 + 64)) % 3 ≠ 2) →
      (Rate.r23 = .r34 → 64 + 64 ≤ i → (i - (64 + 64)) % 4 ≠ 3) →
      (Rate.r23 = .r34 → [(0x41 : Byte)].length % 3 ≠ 0 → i + 1 ≠ 64 + 64 + encLen (8 * [(0x41 : Byte)].length) .r23) →
      frameF10[i]? = (flipped [3, 130] frameF10)[i]? := by
  have key : ∀ i < 140, 64 ≤ i → (128 ≤ i → (i - 128) % 3 ≠ 2) → frameF10[i]? = (flipped [3, 130] frameF10)[i]? := by
    decide +kernel
  exact ⟨by decide +kernel, by decide +kernel, by decide +kernel, fun i h1 h2 h3 _ _ => key i h2 h1 (h3 rfl)⟩

/-- UnreadBitsHaveNoEffect: F5, and F5 with a parity bit and the padding bit of the tail group inverted. -/
theorem witness_unread_padding :
    let f := hexBits 140 0xB4E5B4E5B4E5B4E500000001D3D99E8B504
    let g := flipped [131, 138] f
    f.length = g.length ∧ decodeFrame f 64 .r34 = .ok [0x41] ∧ f[131]? ≠ g[131]? ∧ f[138]? ≠ g[138]? ∧
    ∀ i, 64 ≤ i → i < 64 + 64 + encLen (8 * [(0x41 : Byte)].length) .r34 →
      (Rate.r34 = .r23 → 64 + 64 ≤ i → (i - (64 + 64)) % 3 ≠ 2) →
      (Rate.r34 = .r34 → 64 + 64 ≤ i → (i - (64 + 64)) % 4 ≠ 3) →
      (Rate.r34 = .r34 → [(0x41 : Byte)].length % 3 ≠ 0 → i + 1 ≠ 64 + 64 + encLen (8 * [(0x41 : Byte)].length) .r34) →
      f[i]? = g[i]? := by
  intro f g
  have key : ∀ i < 139, 64 ≤ i → (128 ≤ i → (i - 128) % 4 ≠ 3) → i ≠ 138 → f[i]? = g[i]? := by decide +kernel
  exact ⟨by decide +kernel, by decide +kernel, by decide +kernel, by decide +kernel,
    fun i h1 h2 _ h4 h5 => key i h2 h1 (h4 rfl) fun h => h5 rfl (by decide) (by subst h; rfl)⟩

/-! The synchronizer. -/

/-- FindPreambleResult and FindPreambleGuarantees: `PREAMBLE` with so many mismatches, at the one offset of the scan set. -/
def oneWindow (errors : List Nat) : Bits := flipped errors preamble ++ List.replicate 64 false

/-- Offset 0 is the scan set of such a sequence. -/
theorem witness_scan_set (q : Nat) : inScanSet 0 (oneWindow [0]) q ↔ q = 0 := by
  simp only [inScanSet, show (oneWindow [0]).length = 128 from rfl]; omega

/-- The mismatches 0, 2, 3, 6 and 7 at that offset, the limits of the guarantees, and what `findPreamble` answers. -/
theorem witness_mismatches :
    [[], [0, 9], [0, 9, 18], [0, 9, 18, 27, 36, 45], [0, 9, 18, 27, 36, 45, 54]].map
      (fun e => ((oneWindow e).length, 64 - similarity (oneWindow e) 0, findPreamble 0 (oneWindow e))) =
    [(128, 0, some 0), (128, 2, some 0), (128, 3, some 0), (128, 6, some 0), (128, 7, none)] := by decide +kernel

/-! The session commands. -/

/-- SstartRule, first clause: the five live states. -/
theorem witness_busy : ∀ f ∈ [SessionState.configured, .transmitting, .listening, .decoded, .failed],
    (workerAt .poll f []).record.fsm ≠ .idle ∧ (workerAt .poll f []).record.fsm ≠ .stopped := by decide

/-- SstartRule, second clause: each of the four grounds, in `IDLE` and in `STOPPED`. -/
theorem witness_config_error : ∀ r ∈ [{ helloRecord 10 with params := SessionParams.reset }, { helloRecord 10 with kind := .reserved },
      { helloRecord 10 with present := false }, { helloRecord 10 with bytes := List.replicate (2 ^ 32) 0 }],
    ∀ f ∈ [SessionState.idle, .stopped],
    let s : State := { withRecord r with record := { SessionRecord.reset with fsm := f } }
    (s.record.fsm = .idle ∨ s.record.fsm = .stopped) ∧
      (s.operands.record.params.sps = 0 ∨ s.operands.record.kind = .reserved ∨ s.operands.record.present = false ∨
        2 ^ 32 - 1 < s.operands.record.bytes.length) := by
  simp [-List.reduceReplicate, withRecord, helloRecord, SessionParams.reset, State.reset, State.resetWith]

/-- SstartRule, third clause: records at the limits, in `IDLE` and in `STOPPED`. -/
theorem witness_accepted : ∀ r ∈ [helloRecord 0, { helloRecord 10 with kind := .wav },
      { helloRecord 10 with bytes := List.replicate (2 ^ 32 - 1) 0 }, { helloRecord 10 with bytes := [] }],
    ∀ f ∈ [SessionState.idle, .stopped],
    let s : State := { withRecord r with record := { SessionRecord.reset with fsm := f } }
    (s.record.fsm = .idle ∨ s.record.fsm = .stopped) ∧ s.operands.record.params.sps ≠ 0 ∧
      s.operands.record.kind ≠ .reserved ∧ s.operands.record.present = true ∧ s.operands.record.bytes.length ≤ 2 ^ 32 - 1 := by
  simp [-List.reduceReplicate, withRecord, helloRecord, SessionParams.reset, State.reset, State.resetWith, hello]

/-- SstartReplacesWaitingSession: two records that R260 accepts, in `IDLE`. -/
theorem witness_replacing : (withRecord (helloRecord 10)).record.fsm = .idle ∧
    (withRecord (helloRecord 10)).operands.record.valid = true ∧ (withRecord (helloRecord 3)).operands.record.valid = true := by decide

/-! The worker. -/

/-- The worker-step obligations: a turn with either answer, at each step. -/
theorem witness_worker_turns : ∀ w ∈ [WorkerStep.configure, .build, .size, .transmit, .settle, .receive, .diagnose, .attempt, .finish],
    ∀ a ∈ [RadioAnswer.failed, .returned []],
    (workerAt w .listening [.worker a a]).inputs = .worker a a :: [] ∧ (workerAt w .listening [.worker a a]).worker = w ∧
      (workerAt w .listening []).buffers.payload.length ≤ 2 ^ 32 - 1 := by decide

/-- WorkerSettleAndPollSteps: `RUNNING` clear; `READS` equal to `MAX_READS`; `READS` one below it. -/
theorem witness_poll :
    let s := workerAt .poll .listening [turn]
    (s.worker = .poll ∧ s.clearRunning.record.running = false) ∧
    (s.record.running = true ∧ s.params.maxReads.toNat ≤ ({ s.record with reads := 10 } : SessionRecord).reads.toNat) ∧
    ({ s.record with reads := 9 } : SessionRecord).reads.toNat < s.params.maxReads.toNat := by decide

/-- WorkerReceiveStep: an answer of exactly `RXBUF_SIZE` samples. -/
theorem witness_receive : [Sample.zero, ⟨1, 0⟩].length = ({ SessionRecord.reset with rxBufSize := 2 } : SessionRecord).rxBufSize.toNat := by
  decide

/-- WorkerDiagnoseStep: a buffer whose mean power is not 0, and a positive `SNR_EPS`. -/
theorem witness_mean_power : meanPower [⟨-1, 0⟩, ⟨-1, 0⟩] ≠ 0 ∧ (0 : ℝ) < 1 := ⟨by decide +kernel, one_pos⟩

/-- WorkerAttemptStep: a buffer that decodes (the waveform of F10, one sample a symbol), and one that does not. -/
theorem witness_attempt :
    findPreamble 0 (detect (mapFrame 1 frameF10 1) 1) = some 0 ∧
    decodeFrame (detect (mapFrame 1 frameF10 1) 1) (0 + 64) .r23 = .ok [0x41] ∧
    ∀ off payload, findPreamble 0 (detect [] 1) = some off → decodeFrame (detect [] 1) (off + 64) .r23 ≠ .ok payload :=
  ⟨by decide +kernel, by decide +kernel, fun off _ h => by
    rw [show findPreamble 0 (detect [] 1) = none by decide +kernel] at h; cases h⟩

/-- DetectorUndoesMapper: one sample a symbol, at the least amplitude; the last window of a buffer. -/
theorem witness_detector : 1 ≤ 1 ∧ [true, false][1]? = some false ∧ 0 < 1 ∧ (2 : Nat) < [(⟨1, 0⟩ : Sample), ⟨1, 0⟩, ⟨1, 0⟩].length / 1 := by
  decide

/-! The session. -/

/-- SessionInvAtReset: the reference values are admitted. -/
theorem witness_config : Config.reference.wf = true := by decide +kernel

/-- The invariant holds right after an accepted `SSTART`, whatever the moves to come. -/
theorem witness_live_inv (maxReads : BitVec 32) (inputs : List Input) : SessionInv (started maxReads inputs) := by
  constructor <;>
    simp [started, State.startSession, State.reset, State.resetWith, SessionRecord.reset, SessionRecord.sessionReset, helloRecord,
      phaseAgrees, beforeLoop, beforeTransmit, inLoop, diagnosedReads, noOutcome, hello, maxPayload, witness_config]

/-- StepKeepsSessionInv, SessionStateTransitions, ParametersAreLatched (first case): a live state and its next one. -/
theorem witness_live_step : SessionInv (started 10 [turn]) ∧ (started 10 [turn]).worker ≠ .resting ∧
    step (started 10 [turn]) = .next (workerConfigure (.returned []) (started 10 [])) := ⟨witness_live_inv 10 [turn], by decide, rfl⟩

/-- CommandsAndSessionRecord: `SSTOP` in a live session. -/
theorem witness_command : exec .sstop (started 10 []) = .next ((started 10 []).clearRunning.respond (.ok .none)) := rfl

/-- DatapathIsIndependentOfSession: two states with the same operands and parameters and a different session. -/
theorem witness_independent : datapath .crc32 = true ∧ (started 10 []).operands = State.reset.operands ∧
    (started 10 []).config = State.reset.config ∧ (started 10 []).record.running ≠ State.reset.record.running :=
  ⟨rfl, rfl, rfl, by decide⟩

/-- LiveSessionReachesStopped: a session without a read budget and eight turns of the worker, with a command between them. -/
theorem witness_live_session :
    let s := started 0 ([turn, .command 0xB0 Operands.reset] ++ List.replicate 7 turn)
    SessionInv s ∧ s.worker ≠ .resting ∧ noStartBeforeTurn s.inputs = true ∧
      4 * (s.params.maxReads.toNat - s.record.reads.toNat) + 8 ≤ s.inputs.countP isWorkerTurn :=
  ⟨witness_live_inv 0 _, by decide, rfl, by decide⟩

/-- SessionCallsAndReports: a session whose `configure` call fails is at rest again after two turns, and not before. -/
theorem witness_session_run :
    let s := started 10 [.worker .failed .failed, .worker .failed .failed]
    SessionInv s ∧ s.worker = .configure ∧
    (∃ t, Host.Core.run Sys2Proof.core 2 s = .next t ∧ t.worker = .resting) ∧
    ∀ j u, j < 2 → Host.Core.run Sys2Proof.core j s = .next u → u.worker ≠ .resting := by
  refine ⟨witness_live_inv 10 _, rfl, ⟨_, rfl, rfl⟩, fun j u hj h => ?_⟩
  rcases j with _ | _ | j
  · cases h; decide
  · cases h; exact fun h => nomatch h
  · omega

end Sys2Proof.Tests
end

section
/-! PROOFS. What a command and a step leave unchanged: datapath operations do not see the session, commands keep what is not theirs, the
parameters stay as they were latched; the numeric codes and the state after power-on reset. -/

namespace Sys2Proof.Machine

/-! ### Datapath operations -/

/-- A command with the same sequence operand is answered alike under the same open parameters. -/
theorem sequenceCommand_alike {s t : State} (hc : s.config = t.config) (n : Nat) (r : Response) :
    ∃ r', sequenceCommand s n r = .next (s.answered r') ∧ sequenceCommand t n r = .next (t.answered r') := by
  have hw : s.within n ↔ t.within n := by simp [State.within, hc]
  by_cases h : s.within n
  · exact ⟨r, sequenceCommand_within h r, sequenceCommand_within (hw.mp h) r⟩
  · refine ⟨⟨.badOperand, none, .none⟩, ?_, ?_⟩
    · exact ((sequenceCommand_spec s n r).resolve_left fun e => h e.1).2
    · exact ((sequenceCommand_spec t n r).resolve_left fun e => h (hw.mpr e.1)).2

/-- The same with a test of the operand before it: where the test fails, the operand is outside its domain. -/
theorem guardedSequenceCommand_alike {s t : State} (hc : s.config = t.config) (p : Prop) [Decidable p] (n : Nat) (r : Response) :
    ∃ r', (if p then sequenceCommand s n r else badOperand s) = .next (s.answered r') ∧
      (if p then sequenceCommand t n r else badOperand t) = .next (t.answered r') := by
  by_cases hp : p
  · simpa [hp] using sequenceCommand_alike hc n r
  · exact ⟨⟨.badOperand, none, .none⟩, by simp [hp, badOperand_eq], by simp [hp, badOperand_eq]⟩

/-- Settles O53: each datapath operation is a function of its operand lanes and of `MAX_SEQ` and `SYNC_MARGIN`. -/
theorem datapathIsIndependentOfSession : Obligations.DatapathIsIndependentOfSession := by
  intro i s t hi ho hc
  cases i with
  | b2bits | bits2b | crc32 | fecenc12 | fecenc13 | fecenc23 | fecenc34 | fecdec12 | fecdec13 | fecdec23 | fecdec34 =>
    simpa only [exec, execB2bits, execBits2b, execCrc32, execFecenc12, execFecenc13, execFecenc23, execFecenc34, execFecdec12,
      execFecdec13, execFecdec23, execFecdec34, fecEncodeCommand, fecDecodeCommand, ← ho] using sequenceCommand_alike hc _ _
  | decframe rate => simpa only [exec, execDecframe, ← ho] using sequenceCommand_alike hc _ _
  | findpre => simpa only [exec, execFindpre, ← ho, ← hc] using sequenceCommand_alike hc _ _
  | bitsu32 => simpa only [exec, execBitsu32, ← ho] using guardedSequenceCommand_alike hc _ _ _
  | encframe rate => simpa only [exec, execEncframe, ← ho] using guardedSequenceCommand_alike hc _ _ _
  | u32bits => exact ⟨_, rfl, by simp only [exec, execU32bits, ← ho]; rfl⟩
  | sstart | sstop | ssnap => exact absurd hi (by decide)

/-! ### Commands and the session's registers -/

/-- `SSTOP` clears `RUNNING` and answers `OK`, in every state (R278). -/
theorem exec_sstop (s : State) : exec .sstop s = .next (s.clearRunning.answered ⟨.ok, none, .none⟩) := rfl

/-- Settles O54, by the inversion of `exec`: only an accepted `SSTART` and `SSTOP` do more than answer. -/
theorem commandsAndSessionRecord : Obligations.CommandsAndSessionRecord := by
  intro i s t h
  by_cases hstop : i = .sstop
  · subst hstop
    rw [exec_sstop] at h
    injection h with h
    subst h
    simp
  · rcases exec_cases h with ⟨r, rfl⟩ | ⟨rfl, -, -, rfl⟩ | ⟨rfl, -, -, rfl⟩ | ⟨e, -⟩
    · simp [hstop]
    · simp
    · simp
    · exact absurd e hstop

/-! ### The latched parameters -/

/-- No worker step changes the payload, its name or its kind. -/
theorem workerStep_payload (a b : RadioAnswer) (s : State) :
    (workerStep a b s).buffers.payload = s.buffers.payload ∧ (workerStep a b s).buffers.payloadName = s.buffers.payloadName ∧
      (workerStep a b s).buffers.payloadKind = s.buffers.payloadKind := by
  have hcall : ∀ (u : State) (c : RadioCall) (k : State → State), (∀ v, (k v).buffers = v.buffers) →
      (u.callOrFail c a k).buffers = u.buffers := by
    intro u c k hk
    rcases callOrFail_spec u c a k with ⟨-, e⟩ | ⟨-, e⟩ <;> simp [e, hk]
  cases h : s.worker with
  | resting => simp [workerStep_resting h]
  | configure => simp [workerStep_configure h, workerConfigure, hcall]
  | build => simp [workerStep_build h, workerBuild]
  | size => simp [workerStep_size h, workerSize, hcall]
  | transmit => simp [workerStep_transmit h, workerTransmit, hcall]
  | settle => simp [workerStep_settle h, workerSettle]
  | poll => rw [workerStep_poll h]; unfold workerPoll; split <;> [simp; (split <;> simp)]
  | receive => simp [workerStep_receive h, workerReceive, hcall]
  | diagnose => simp [workerStep_diagnose h, workerDiagnose]
  | attempt => rw [workerStep_attempt h]; unfold workerAttempt; split <;> simp
  | finish => simp [workerStep_finish h, leaveSession_rest]

/-- Settles O55, by the inversion of `step`, then of `exec` for a command. -/
theorem parametersAreLatched : Obligations.ParametersAreLatched := by
  intro s t h
  rcases step_cases h with ⟨-, rfl⟩ | ⟨a, b, rest, -, rfl⟩ | ⟨w, o, rest, i, hin, hdec, hex⟩ | ⟨w, o, rest, e, -, -, rfl⟩
  · simp
  · obtain ⟨hconfig, hparams, -⟩ := workerStep_keeps a b { s with inputs := rest }
    exact ⟨hconfig, .inl ⟨hparams, workerStep_payload a b { s with inputs := rest }⟩⟩
  · rcases exec_cases hex with ⟨r, rfl⟩ | ⟨rfl, hlive, hvalid, rfl⟩ | ⟨-, -, -, rfl⟩ | ⟨-, rfl⟩
    · simp
    · exact ⟨rfl, .inr ⟨w, o, rest, hin, hdec, State.live_eq_false.mp hlive, hvalid, rfl, rfl, rfl, rfl⟩⟩
    · simp
    · simp
  · simp

/-! ### Codes and reset -/

/-- Settles O6, code by code. -/
theorem numericCodes : Obligations.NumericCodes := ⟨rfl, rfl, rfl, rfl, rfl, rfl⟩

/-- Settles O51: with no move listed a step changes nothing (R350). -/
theorem powerOnResetState : Obligations.PowerOnResetState := fun _ => ⟨rfl, rfl, rfl, rfl⟩

end Sys2Proof.Machine
end

section
/-! PROOFS. The session invariant. Its clauses are guarded by the worker's position, so it is first said again by the stretches of a
session: before the loop (`Preparing`), in it (`Looping`), on the way out (`Ending`), at rest. The invariant gives what each stretch
finds, and that, with the clauses of the position, gives the invariant back; a step of the worker is then a move from one stretch to
the same or the next. -/

namespace Sys2Proof.Machine

/-! ### The guards of the invariant -/

@[simp] theorem beforeLoop_iff (w : WorkerStep) :
    beforeLoop w = true ↔ w = .configure ∨ w = .build ∨ w = .size ∨ w = .transmit ∨ w = .settle := by
  simp [beforeLoop, or_assoc]

@[simp] theorem beforeTransmit_iff (w : WorkerStep) :
    beforeTransmit w = true ↔ w = .configure ∨ w = .build ∨ w = .size ∨ w = .transmit := by
  simp [beforeTransmit, or_assoc]

@[simp] theorem inLoop_iff (w : WorkerStep) :
    inLoop w = true ↔ w = .poll ∨ w = .receive ∨ w = .diagnose ∨ w = .attempt := by
  simp [inLoop, or_assoc]

/-! ### The length of a frame -/

theorem bytesToBits_length (bytes : Bytes) : (bytesToBits bytes).length = 8 * bytes.length := by
  induction bytes with
  | nil => rfl
  | cons b rest ih => rw [bytesToBits_cons, List.length_append, bitsMsbFirst_length, ih, List.length_cons]; omega

/-- The worst expansion is that of the tail of one bit at rate 3/4. -/
theorem fecEncode_length_le (rate : Rate) (bits : Bits) : (fecEncode rate bits).length ≤ 4 * bits.length := by
  cases rate with
  | r12 =>
    change (fecEncode12 bits).length ≤ _
    induction bits with
    | nil => simp [fecEncode12]
    | cons b rest ih => simp only [fecEncode12, List.length_cons]; omega
  | r13 =>
    change (fecEncode13 bits).length ≤ _
    induction bits with
    | nil => simp [fecEncode13]
    | cons b rest ih => simp only [fecEncode13, List.length_cons]; omega
  | r23 =>
    change (fecEncode23 bits).length ≤ _
    induction bits using fecEncode23.induct with
    | case1 b0 b1 rest ih => simp only [fecEncode23, List.length_cons]; omega
    | case2 b => simp [fecEncode23]
    | case3 => simp [fecEncode23]
  | r34 =>
    change (fecEncode34 bits).length ≤ _
    induction bits using fecEncode34.induct with
    | case1 b0 b1 b2 rest ih => simp only [fecEncode34, List.length_cons]; omega
    | case2 b0 b1 => simp [fecEncode34]
    | case3 b0 => simp [fecEncode34]
    | case4 => simp [fecEncode34]

theorem encodeFrame_length_le (payload : Bytes) (rate : Rate) :
    (encodeFrame payload rate).length ≤ 128 + 32 * payload.length := by
  have hfec := fecEncode_length_le rate (bytesToBits payload)
  rw [bytesToBits_length] at hfec
  have hpre : preamble.length = 64 := rfl
  simp only [encodeFrame, u32ToBits, List.length_append, bitsMsbFirst_length, hpre]
  omega

/-- `FRAME_SAMPLES` holds the exact sample count of a payload that R260 admits (R137). -/
theorem frameSamples_exact {payload : Bytes} (h : payload.length ≤ maxPayload) (rate : Rate) (sps : BitVec 16) :
    (BitVec.ofNat 64 ((encodeFrame payload rate).length * sps.toNat)).toNat = (encodeFrame payload rate).length * sps.toNat := by
  have hlen : (encodeFrame payload rate).length ≤ 2 ^ 38 := by
    have := encodeFrame_length_le payload rate
    simp only [maxPayload] at h
    omega
  have hprod : (encodeFrame payload rate).length * sps.toNat ≤ 2 ^ 38 * 2 ^ 16 := Nat.mul_le_mul hlen sps.isLt.le
  rw [BitVec.toNat_ofNat, Nat.mod_eq_of_lt (by omega)]

/-- The receive window fits its register and keeps its limits (R37, R264). -/
theorem receiveWindow_exact (n : Nat) : (BitVec.ofNat 22 (receiveWindow n)).toNat = receiveWindow n ∧
    262144 ≤ receiveWindow n ∧ receiveWindow n ≤ 2097152 := by
  have hlimits : 262144 ≤ receiveWindow n ∧ receiveWindow n ≤ 2097152 := by
    simp only [receiveWindow, rxWindowMin, rxWindowMax]
    omega
  exact ⟨by rw [BitVec.toNat_ofNat, Nat.mod_eq_of_lt (by omega)], hlimits⟩

/-! ### The invariant by the stretches of a session -/

/-- The clauses of `SessionInv` that hold wherever the worker stands. -/
structure Bounded (s : State) : Prop where
  parameters : s.config.wf = true
  readBudget : s.record.reads.toNat ≤ s.params.maxReads.toNat
  oneFrame   : s.record.framesTx.toNat ≤ 1
  window     : s.record.rxBufSize = 0 ∨ (262144 ≤ s.record.rxBufSize.toNat ∧ s.record.rxBufSize.toNat ≤ 2097152)

/-- The parameters and the payload passed the validation of R260. -/
def acceptedRecord (s : State) : Prop :=
  s.params.sps ≠ 0 ∧ s.buffers.payloadKind ≠ .reserved ∧ s.buffers.payload.length ≤ maxPayload

/-- `FRAME` and `FRAME_SAMPLES` are those of the payload (R263). -/
def frameReady (s : State) : Prop :=
  s.buffers.frame = encodeFrame s.buffers.payload s.params.rate ∧
    s.record.frameSamples.toNat = s.buffers.frame.length * s.params.sps.toNat

/-- The receive window is set, in the block and in the device (R264). -/
def windowReady (s : State) : Prop :=
  s.record.rxBufSize.toNat = receiveWindow s.record.frameSamples.toNat ∧ s.radio.rxSize = s.record.rxBufSize

/-- `SNR_HIST` shows `n` reads (R269). -/
def historyShows (s : State) (n : Nat) : Prop := s.record.snrHist.length = min n s.config.snrHistCap

/-- What every step before the receive loop finds: an accepted session that has made no read. -/
structure Preparing (s : State) : Prop where
  accepted  : acceptedRecord s
  undecided : noOutcome s
  noRead    : s.record.reads = 0
  noHistory : s.record.snrHist = []
  noBuffer  : s.rxBuffer = []

/-- What every step of the receive loop finds: the frame is on the air and the window is set. -/
structure Looping (s : State) : Prop where
  listening  : s.record.fsm = .listening
  accepted   : acceptedRecord s
  undecided  : noOutcome s
  configured : s.radio.configured = true
  frame      : frameReady s
  window     : windowReady s
  sent       : s.record.framesTx = 1
  replaying  : s.radio.txArmed = true

/-- What the way out finds: a decode or a failure. -/
structure Ending (s : State) : Prop where
  accepted  : acceptedRecord s
  noBuffer  : s.rxBuffer = []
  history   : historyShows s s.record.reads.toNat
  replaying : s.record.framesTx = 1 → s.radio.txArmed = true
  outcome   : s.record.fsm = .decoded ∧ hasSucceeded s ∧ s.record.framesTx = 1 ∧ s.radio.configured = true ∨
    s.record.fsm = .failed ∧ hasFailed s

/-- `s` with `RXBUF_SIZE` set, as R264 does before its call. -/
def State.withWindow (s : State) : State :=
  { s with record := { s.record with rxBufSize := BitVec.ofNat 22 (receiveWindow s.record.frameSamples.toNat) } }

@[simp] theorem State.withWindow_rxBufSize (s : State) :
    s.withWindow.record.rxBufSize = BitVec.ofNat 22 (receiveWindow s.record.frameSamples.toNat) := rfl

/-- `RXBUF_SIZE` is written before the call (R264), whatever the call answers. -/
theorem workerSize_eq (a : RadioAnswer) (s : State) :
    workerSize a s =
      s.withWindow.callOrFail (.setReceiveBufferSize s.withWindow.record.rxBufSize) a fun t => { t with worker := .transmit } :=
  rfl

namespace SessionInv

/-! What the invariant says in each stretch. -/

section
variable {s : State} (h : SessionInv s)
include h

theorem bounded : Bounded s := ⟨h.parameters, h.readBudget, h.oneFrame, h.window⟩

theorem historyShows_reads (hw : s.worker ≠ .diagnose) : historyShows s s.record.reads.toNat := by
  simpa [historyShows, diagnosedReads, hw] using h.history

theorem preparing (hw : beforeLoop s.worker = true) : Preparing s := by
  have hread := h.noEarlyRead hw
  have hlive : s.worker ≠ .resting ∧ s.worker ≠ .finish ∧ s.worker ≠ .diagnose ∧ s.worker ≠ .attempt := by
    rcases (beforeLoop_iff _).mp hw with e | e | e | e | e <;> simp [e]
  obtain ⟨hrest, hfin, hdiag, hatt⟩ := hlive
  have hhist : s.record.snrHist = [] := by simpa [historyShows, hread] using h.historyShows_reads hdiag
  exact ⟨h.validated (.inl hrest), h.undecided hrest hfin, hread, hhist, h.nothingCarriedOver hdiag hatt⟩

/-- From R263 up to the loop the device is configured. -/
theorem configured_of_beforeLoop (hw : beforeLoop s.worker = true) (hc : s.worker ≠ .configure) :
    s.radio.configured = true := by
  have hfsm : s.record.fsm = .configured ∨ s.record.fsm = .transmitting := by
    have hphase := h.phase
    rcases (beforeLoop_iff _).mp hw with e | e | e | e | e <;> simp_all [phaseAgrees]
  rcases hfsm with e | e <;> exact h.deviceConfigured (by simp [e]) (by simp [e]) (by simp [e])

theorem looping (hw : inLoop s.worker = true) : Looping s := by
  have hlive : s.worker ≠ .resting ∧ s.worker ≠ .finish ∧ s.record.fsm = .listening := by
    have hphase := h.phase
    rcases (inLoop_iff _).mp hw with e | e | e | e <;> simpa [e, phaseAgrees] using hphase
  obtain ⟨hrest, hfin, hfsm⟩ := hlive
  have hsent := h.sent (.inr (.inl hw))
  exact {
    listening := hfsm
    accepted := h.validated (.inl hrest)
    undecided := h.undecided hrest hfin
    configured := h.deviceConfigured (by simp [hfsm]) (by simp [hfsm]) (by simp [hfsm])
    frame := h.frameBuilt (.inr (.inr (.inr hw)))
    window := ⟨h.sized (.inr (.inr hw)), h.deviceSized (.inr (.inr hw))⟩
    sent := hsent
    replaying := h.replaying hrest hsent }

theorem ending (hw : s.worker = .finish) : Ending s := by
  have hfsm : s.record.fsm = .decoded ∨ s.record.fsm = .failed := by simpa [hw, phaseAgrees] using h.phase
  refine ⟨h.validated (by simp [hw]), h.nothingCarriedOver (by simp [hw]) (by simp [hw]), h.historyShows_reads (by simp [hw]),
    h.replaying (by simp [hw]), ?_⟩
  rcases hfsm with e | e
  · exact .inl ⟨e, h.decodedState e, h.sent (.inr (.inr e)), h.deviceConfigured (by simp [e]) (by simp [e]) (by simp [e])⟩
  · exact .inr ⟨e, h.failedState e⟩

end

/-! Each stretch gives the invariant back. -/

theorem of_preparing {s : State} {w : WorkerStep} (hw : s.worker = w) (hbefore : beforeLoop w = true) (hb : Bounded s)
    (hp : Preparing s) (hphase : phaseAgrees w s.record.fsm = true)
    (hsent : w ≠ .settle ∧ s.record.framesTx = 0 ∨ w = .settle ∧ s.record.framesTx = 1 ∧ s.radio.txArmed = true)
    (hconf : w ≠ .configure → s.radio.configured = true)
    (hframe : w = .size ∨ w = .transmit ∨ w = .settle → frameReady s)
    (hwindow : w = .transmit ∨ w = .settle → windowReady s) : SessionInv s := by
  subst hw
  have hlive : s.worker ≠ .resting ∧ inLoop s.worker = false ∧ s.worker ≠ .receive ∧ s.worker ≠ .diagnose ∧
      s.worker ≠ .attempt := by
    rcases (beforeLoop_iff _).mp hbefore with e | e | e | e | e <;> simp [e, inLoop]
  obtain ⟨hrest, hloop, hrec, hdiag, hatt⟩ := hlive
  have hfsm : s.record.fsm ≠ .decoded ∧ s.record.fsm ≠ .failed ∧
      (s.worker = .configure → s.record.fsm = .idle ∨ s.record.fsm = .stopped) := by
    rcases (beforeLoop_iff _).mp hbefore with e | e | e | e | e <;> cases hf : s.record.fsm <;>
      simp [e, hf, phaseAgrees] at hphase ⊢
  obtain ⟨hdec, hfail, hidle⟩ := hfsm
  exact { hb with
    phase := hphase
    validated := fun _ => hp.accepted
    receiveBudget := fun e => absurd e hrec
    noEarlyRead := fun _ => hp.noRead
    diagnosedRead := fun e => absurd e hdiag
    history := by simp [hp.noHistory, diagnosedReads, hp.noRead]
    notYetSent := by rcases hsent with ⟨-, e⟩ | ⟨e, -⟩ <;> simp [e]
    sent := by rcases hsent with ⟨e, -⟩ | ⟨-, e, -⟩ <;> simp [e, hloop, hdec]
    frameBuilt := fun e => hframe (by simpa [hloop] using e)
    sized := fun e => (hwindow (by simpa [hloop] using e)).1
    deviceConfigured := fun h1 _ h3 => hconf fun e => (hidle e).elim h1 h3
    deviceSized := fun e => (hwindow (by simpa [hloop] using e)).2
    replaying := by rcases hsent with ⟨-, e⟩ | ⟨-, -, e⟩ <;> simp [e]
    bufferSize := fun e => e.elim (absurd · hdiag) (absurd · hatt)
    nothingCarriedOver := fun _ _ => hp.noBuffer
    undecided := fun _ _ => hp.undecided
    fresh := fun e => absurd e hrest
    decodedState := fun e => absurd e hdec
    failedState := fun e => absurd e hfail
    stoppedState := fun e => absurd e hrest
    restingFlag := fun e => absurd e hrest }

theorem of_looping {s : State} {w : WorkerStep} (hw : s.worker = w) (hin : inLoop w = true) (hb : Bounded s) (hl : Looping s)
    (hbudget : w = .receive → s.record.reads.toNat < s.params.maxReads.toNat)
    (hread : w = .diagnose → 1 ≤ s.record.reads.toNat)
    (hhist : historyShows s (diagnosedReads s))
    (hbuf : (w = .diagnose ∨ w = .attempt) ∧ s.rxBuffer.length = s.record.rxBufSize.toNat ∨
      (w = .poll ∨ w = .receive) ∧ s.rxBuffer = []) : SessionInv s := by
  subst hw
  have hlive : s.worker ≠ .resting ∧ beforeLoop s.worker = false ∧ beforeTransmit s.worker = false ∧
      phaseAgrees s.worker .listening = true := by
    rcases (inLoop_iff _).mp hin with e | e | e | e <;> simp [e, beforeLoop, beforeTransmit, phaseAgrees]
  obtain ⟨hrest, hbefore, hunsent, hphase⟩ := hlive
  exact { hb with
    phase := by rw [hl.listening]; exact hphase
    validated := fun _ => hl.accepted
    receiveBudget := hbudget
    noEarlyRead := by simp [hbefore]
    diagnosedRead := hread
    history := hhist
    notYetSent := by simp [hunsent]
    sent := fun _ => hl.sent
    frameBuilt := fun _ => hl.frame
    sized := fun _ => hl.window.1
    deviceConfigured := fun _ _ _ => hl.configured
    deviceSized := fun _ => hl.window.2
    replaying := fun _ _ => hl.replaying
    bufferSize := by rcases hbuf with ⟨-, e⟩ | ⟨e | e, -⟩ <;> simp [e]
    nothingCarriedOver := by rcases hbuf with ⟨e | e, -⟩ | ⟨-, e⟩ <;> simp [e]
    undecided := fun _ _ => hl.undecided
    fresh := fun e => absurd e hrest
    decodedState := by simp [hl.listening]
    failedState := by simp [hl.listening]
    stoppedState := fun e => absurd e hrest
    restingFlag := fun e => absurd e hrest }

theorem of_ending {s : State} (hw : s.worker = .finish) (hb : Bounded s) (he : Ending s) : SessionInv s := by
  have hfsm : s.record.fsm = .decoded ∨ s.record.fsm = .failed := he.outcome.imp And.left And.left
  exact { hb with
    phase := by simpa [hw, phaseAgrees] using hfsm
    validated := fun _ => he.accepted
    receiveBudget := by simp [hw]
    noEarlyRead := by simp [hw]
    diagnosedRead := by simp [hw]
    history := by simpa [historyShows, diagnosedReads, hw] using he.history
    notYetSent := by simp [hw]
    sent := by rcases he.outcome with ⟨-, -, e, -⟩ | ⟨e, -⟩ <;> simp [e, hw]
    frameBuilt := by simp [hw]
    sized := by simp [hw]
    deviceConfigured := by rcases he.outcome with ⟨-, -, -, e⟩ | ⟨e, -⟩ <;> simp [e]
    deviceSized := by simp [hw]
    replaying := fun _ => he.replaying
    bufferSize := by simp [hw]
    nothingCarriedOver := fun _ _ => he.noBuffer
    undecided := fun _ e => absurd hw e
    fresh := by simp [hw]
    decodedState := by rcases he.outcome with ⟨-, e, -⟩ | ⟨e, -⟩ <;> simp [e]
    failedState := by rcases he.outcome with ⟨e, -⟩ | ⟨-, e⟩ <;> simp [e]
    stoppedState := by simp [hw]
    restingFlag := by simp [hw] }

theorem of_resting {s : State} (hw : s.worker = .resting) (hb : Bounded s) (hrun : s.record.running = false)
    (hbuf : s.rxBuffer = []) (hhist : historyShows s s.record.reads.toNat)
    (houtcome : s.record.fsm = .idle ∧ noOutcome s ∨
      s.record.fsm = .stopped ∧ acceptedRecord s ∧ (hasSucceeded s ∨ hasFailed s)) : SessionInv s := by
  have hfsm : s.record.fsm = .idle ∨ s.record.fsm = .stopped := houtcome.imp And.left And.left
  exact { hb with
    phase := by simpa [hw, phaseAgrees] using hfsm
    validated := by rcases houtcome with ⟨e, -⟩ | ⟨-, e, -⟩ <;> [simp [hw, e]; exact fun _ => e]
    receiveBudget := by simp [hw]
    noEarlyRead := by simp [hw]
    diagnosedRead := by simp [hw]
    history := by simpa [historyShows, diagnosedReads, hw] using hhist
    notYetSent := by simp [hw]
    sent := by rcases hfsm with e | e <;> simp [e, hw]
    frameBuilt := by simp [hw]
    sized := by simp [hw]
    deviceConfigured := fun h1 _ h3 => (hfsm.elim h1 h3).elim
    deviceSized := by simp [hw]
    replaying := fun e => absurd hw e
    bufferSize := by simp [hw]
    nothingCarriedOver := fun _ _ => hbuf
    undecided := fun e => absurd hw e
    fresh := by rcases houtcome with ⟨-, e⟩ | ⟨e, -⟩ <;> simp [e]
    decodedState := by rcases hfsm with e | e <;> simp [e]
    failedState := by rcases hfsm with e | e <;> simp [e]
    stoppedState := by rcases houtcome with ⟨e, -⟩ | ⟨-, -, e⟩ <;> simp [e]
    restingFlag := fun _ => hrun }

/-! ### Updates that keep the invariant wherever the worker stands -/

/-- The invariant speaks of the session's registers, the held buffer, the parameters and the device, and of nothing else. -/
theorem of_sameRegisters {s t : State} (h : SessionInv s)
    (e : t.record = s.record ∧ t.params = s.params ∧ t.buffers = s.buffers ∧ t.worker = s.worker ∧
      t.rxBuffer = s.rxBuffer ∧ t.radio = s.radio ∧ t.config = s.config) : SessionInv t := by
  cases s
  cases t
  obtain ⟨rfl, rfl, rfl, rfl, rfl, rfl, rfl⟩ := e
  exact { h with }

theorem answered {s : State} (h : SessionInv s) (r : Response) : SessionInv (s.answered r) := { h with }

theorem emit {s : State} (h : SessionInv s) (os : List Output) : SessionInv (s.emit os) := { h with }

theorem acceptCommand {s : State} (h : SessionInv s) (o : Operands) (rest : List Input) :
    SessionInv (s.acceptCommand o rest) := { h with }

theorem nextInputs {s : State} (h : SessionInv s) (rest : List Input) : SessionInv { s with inputs := rest } := { h with }

theorem clearRunning {s : State} (h : SessionInv s) : SessionInv s.clearRunning := { h with restingFlag := fun _ => rfl }

/-- An accepted `SSTART` begins a session (R260, R261); where `S` allows one no buffer is held. -/
theorem startSession {s : State} (h : SessionInv s) (hs : s.record.fsm = .idle ∨ s.record.fsm = .stopped) {r : StartRecord}
    (hr : r.valid = true) : SessionInv (s.startSession r) := by
  have hbuf : s.rxBuffer = [] := by
    have hphase := h.phase
    refine h.nothingCarriedOver ?_ ?_ <;> intro e <;> rcases hs with hf | hf <;> simp [e, hf, phaseAgrees] at hphase
  have haccepted : acceptedRecord (s.startSession r) := by
    obtain ⟨⟨⟨hsps, hkind⟩, -⟩, hlen⟩ : ((r.params.sps ≠ 0 ∧ r.kind ≠ .reserved) ∧ r.present = true) ∧
        r.bytes.length ≤ maxPayload := by simpa [StartRecord.valid] using hr
    exact ⟨hsps, hkind, hlen⟩
  exact of_preparing (w := .configure) rfl rfl ⟨h.parameters, Nat.zero_le _, Nat.zero_le _, .inl rfl⟩
    ⟨haccepted, ⟨rfl, rfl, rfl, rfl⟩, rfl, rfl, hbuf⟩ (by rcases hs with e | e <;> simp [phaseAgrees, e]) (.inl ⟨nofun, rfl⟩)
    (by simp) (by simp) (by simp)

/-- The entry to `FAILED` (R322), from any step that can fail. -/
theorem enterFailed {s : State} (h : SessionInv s)
    (hw : s.worker = .configure ∨ s.worker = .size ∨ s.worker = .transmit ∨ s.worker = .poll ∨ s.worker = .receive)
    {r : FailReason} (hr : r = .deviceError ∨ r = .budgetExhausted ∨ r = .cancelled) : SessionInv (s.enterFailed r) := by
  have hlive : s.worker ≠ .resting ∧ s.worker ≠ .finish ∧ s.worker ≠ .diagnose ∧ s.worker ≠ .attempt := by
    rcases hw with e | e | e | e | e <;> simp [e]
  obtain ⟨hrest, hfin, hdiag, hatt⟩ := hlive
  obtain ⟨hdecodes, hvalid, hresult, -⟩ := h.undecided hrest hfin
  exact of_ending rfl { h.bounded with }
    { accepted := h.validated (.inl hrest)
      noBuffer := h.nothingCarriedOver hdiag hatt
      history := h.historyShows_reads hdiag
      replaying := h.replaying hrest
      outcome := .inr ⟨rfl, hdecodes, hvalid, hresult, hr⟩ }

/-- A device call that fails on the way to `FAILED`: no clause but that of the replay concerns the device there. -/
theorem failedCall {s : State} (h : SessionInv s)
    (hw : s.worker = .configure ∨ s.worker = .size ∨ s.worker = .transmit ∨ s.worker = .receive) {c : RadioCall}
    (hc : c ≠ .releaseTransmitBuffer) : SessionInv ((s.radioCall c .failed).enterFailed .deviceError) := by
  have hf : SessionInv (s.enterFailed .deviceError) :=
    h.enterFailed (by rcases hw with e | e | e | e <;> simp [e]) (.inl rfl)
  exact { hf with
    deviceConfigured := fun _ e _ => absurd rfl e
    deviceSized := nofun
    replaying := fun _ e => radioCall_txArmed hc (hf.replaying nofun e) .failed }

/-! ### The steps of the worker -/

section
variable {s : State} (h : SessionInv s)
include h

/-- The clause on `S`, at a known position. -/
theorem phase_at {w : WorkerStep} (hw : s.worker = w) : phaseAgrees w s.record.fsm = true := hw ▸ h.phase

/-- R262: the device is configured, or the session fails. -/
theorem configureStep (hw : s.worker = .configure) (a : RadioAnswer) : SessionInv (workerConfigure a s) := by
  cases a with
  | failed => exact h.failedCall (.inl hw) nofun
  | returned buf =>
    have hp := h.preparing (by simp [hw])
    exact of_preparing (w := .build) rfl rfl { h.bounded with } { hp with } rfl (.inl ⟨nofun, h.notYetSent (by simp [hw])⟩)
      (fun _ => rfl) (by simp) (by simp)

/-- R263: an admitted payload's frame has a sample count that fits `FRAME_SAMPLES`. -/
theorem buildStep (hw : s.worker = .build) : SessionInv (workerBuild s) := by
  have hp := h.preparing (by simp [hw])
  obtain ⟨-, -, hlen⟩ := hp.accepted
  exact of_preparing (w := .size) rfl rfl { h.bounded with } { hp with } (h.phase_at (w := .build) hw)
    (.inl ⟨nofun, h.notYetSent (by simp [hw])⟩) (fun _ => h.configured_of_beforeLoop (by simp [hw]) (by simp [hw]))
    (fun _ => ⟨rfl, frameSamples_exact hlen _ _⟩) (by simp)

/-- `RXBUF_SIZE` is written before the call that can fail, so a failure leaves it written. -/
theorem sizeStep (hw : s.worker = .size) (a : RadioAnswer) : SessionInv (workerSize a s) := by
  obtain ⟨hexact, hlimits⟩ := receiveWindow_exact s.record.frameSamples.toNat
  have hp := h.preparing (by simp [hw])
  have hsent := h.notYetSent (by simp [hw])
  have hconf := h.configured_of_beforeLoop (by simp [hw]) (by simp [hw])
  have hframe := h.frameBuilt (.inl hw)
  have hb : Bounded s.withWindow := { h.bounded with window := .inr (by rw [State.withWindow_rxBufSize, hexact]; exact hlimits) }
  rw [workerSize_eq]
  cases a with
  | failed =>
    have hsized : SessionInv s.withWindow := of_preparing (w := .size) hw rfl hb { hp with } (h.phase_at (w := .size) hw)
      (.inl ⟨nofun, hsent⟩) (fun _ => hconf) (fun _ => hframe) (by simp)
    exact hsized.failedCall (.inr (.inl hw)) nofun
  | returned buf =>
    exact of_preparing (w := .transmit) rfl rfl { hb with } { hp with } (h.phase_at (w := .size) hw) (.inl ⟨nofun, hsent⟩)
      (fun _ => hconf) (fun _ => hframe) (fun _ => ⟨hexact, rfl⟩)

/-- R265: the one frame is counted and its replay begins. -/
theorem transmitStep (hw : s.worker = .transmit) (a : RadioAnswer) : SessionInv (workerTransmit a s) := by
  cases a with
  | failed => exact h.failedCall (.inr (.inr (.inl hw))) nofun
  | returned buf =>
    have hp := h.preparing (by simp [hw])
    have hsent : s.record.framesTx + 1 = 1 := by rw [h.notYetSent (by simp [hw])]; rfl
    have hone : (s.record.framesTx + 1).toNat ≤ 1 := by rw [hsent]; decide
    exact of_preparing (w := .settle) rfl rfl { h.bounded with oneFrame := hone } { hp with } rfl (.inr ⟨rfl, hsent, rfl⟩)
      (fun _ => h.configured_of_beforeLoop (by simp [hw]) (by simp [hw])) (fun _ => h.frameBuilt (by simp [hw]))
      (fun _ => ⟨h.sized (.inl hw), h.deviceSized (.inl hw)⟩)

/-- R267: the loop is entered with the frame on the air and no read made. -/
theorem settleStep (hw : s.worker = .settle) : SessionInv (workerSettle s) := by
  have hp := h.preparing (by simp [hw])
  have hsent := h.sent (.inl hw)
  have hl : Looping (workerSettle s) :=
    { listening := rfl
      accepted := hp.accepted
      undecided := hp.undecided
      configured := h.configured_of_beforeLoop (by simp [hw]) (by simp [hw])
      frame := h.frameBuilt (by simp [hw])
      window := ⟨h.sized (by simp [hw]), h.deviceSized (by simp [hw])⟩
      sent := hsent
      replaying := h.replaying (by simp [hw]) hsent }
  exact of_looping (w := .poll) rfl rfl { h.bounded with } hl nofun nofun (h.historyShows_reads (by simp [hw]))
    (.inr ⟨.inl rfl, hp.noBuffer⟩)

/-- The cancel test, then the budget test (R270). -/
theorem pollStep (hw : s.worker = .poll) : SessionInv (workerPoll s) := by
  unfold workerPoll
  split
  · exact h.enterFailed (by simp [hw]) (.inr (.inr rfl))
  · split
    · exact h.enterFailed (by simp [hw]) (.inr (.inl rfl))
    · rename_i hbudget
      exact of_looping (w := .receive) rfl rfl { h.bounded with } { h.looping (by simp [hw]) with }
        (fun _ => Nat.lt_of_not_le hbudget) nofun (h.historyShows_reads (by simp [hw]))
        (.inr ⟨.inr rfl, h.nothingCarriedOver (by simp [hw]) (by simp [hw])⟩)

/-- A read within the budget cannot wrap `READS`. -/
theorem receiveStep (hw : s.worker = .receive) (a : RadioAnswer) : SessionInv (workerReceive a s) := by
  cases a with
  | failed => exact h.failedCall (.inr (.inr (.inr hw))) nofun
  | returned buf =>
    have hbudget := h.receiveBudget hw
    have hread : (s.record.reads + 1).toNat = s.record.reads.toNat + 1 := by bv_omega
    have hdiag : historyShows s ((s.record.reads + 1).toNat - 1) := by
      rw [hread]
      exact h.historyShows_reads (by simp [hw])
    have hbuf := (buffer_returned s.record.rxBufSize.toNat buf).1
    exact of_looping (w := .diagnose) rfl rfl
      { h.bounded with readBudget := le_of_eq_of_le hread hbudget } { h.looping (by simp [hw]) with } nofun
      (fun _ => le_of_le_of_eq (Nat.le_add_left 1 _) hread.symm) hdiag
      (.inl ⟨.inl rfl, hbuf⟩)

/-- R272: the history catches up with `READS`. -/
theorem diagnoseStep (hw : s.worker = .diagnose) : SessionInv (workerDiagnose s) := by
  have hcap : 1 ≤ s.config.snrHistCap := by
    have hparam := h.parameters
    simp only [Config.wf, Bool.and_eq_true, decide_eq_true_eq] at hparam
    exact hparam.2
  have hhist : s.record.snrHist.length = min (s.record.reads.toNat - 1) s.config.snrHistCap := by
    simpa [diagnosedReads, hw] using h.history
  have hread := h.diagnosedRead hw
  have hlen := snrAppend_length hcap s.record.snrHist (estimateSnr s.draws s.rxBuffer) (by omega)
  have hshows : historyShows (workerDiagnose s) s.record.reads.toNat := by
    refine hlen.trans ?_
    change _ = min s.record.reads.toNat s.config.snrHistCap
    omega
  exact of_looping (w := .attempt) rfl rfl { h.bounded with } { h.looping (by simp [hw]) with } nofun nofun hshows
    (.inl ⟨.inr rfl, h.bufferSize (.inl hw)⟩)

/-- A miss goes back to the poll point (R274); a decode ends the session (R273). -/
theorem attemptStep (hw : s.worker = .attempt) : SessionInv (workerAttempt s) := by
  have hl := h.looping (by simp [hw])
  have hhist := h.historyShows_reads (by simp [hw])
  unfold workerAttempt
  split
  · exact of_looping (w := .poll) rfl rfl { h.bounded with } { hl with } nofun nofun hhist (.inr ⟨.inl rfl, rfl⟩)
  · obtain ⟨hdecodes, -, -, hreason⟩ := hl.undecided
    have hone : s.record.decodes + 1 = 1 := by rw [hdecodes]; rfl
    exact of_ending rfl { h.bounded with }
      { accepted := hl.accepted
        noBuffer := rfl
        history := hhist
        replaying := fun _ => hl.replaying
        outcome := .inl ⟨rfl, ⟨hone, rfl, hreason⟩, hl.sent, hl.configured⟩ }

/-- The way out keeps the counters and the outcome (R276). -/
theorem finishStep (hw : s.worker = .finish) (a b : RadioAnswer) : SessionInv (s.leaveSession a b) := by
  have he := h.ending hw
  obtain ⟨hparams, hbuffers, hbuf, hconfig, -, -⟩ := leaveSession_rest s a b
  have hrest : SessionInv { s with
      record := { s.record with running := false, fsm := .stopped }, worker := .resting, radio := (s.leaveSession a b).radio } :=
    of_resting rfl { h.bounded with } rfl he.noBuffer he.history
      (.inr ⟨rfl, he.accepted, he.outcome.imp (fun hd => hd.2.1) (fun hf => hf.2)⟩)
  exact hrest.of_sameRegisters ⟨leaveSession_record s a b, hparams, hbuffers, rfl, hbuf, rfl, hconfig⟩

theorem workerStep (a b : RadioAnswer) : SessionInv (workerStep a b s) := by
  cases hw : s.worker with
  | resting => rw [workerStep_resting hw]; exact h
  | configure => rw [workerStep_configure hw]; exact h.configureStep hw a
  | build => rw [workerStep_build hw]; exact h.buildStep hw
  | size => rw [workerStep_size hw]; exact h.sizeStep hw a
  | transmit => rw [workerStep_transmit hw]; exact h.transmitStep hw a
  | settle => rw [workerStep_settle hw]; exact h.settleStep hw
  | poll => rw [workerStep_poll hw]; exact h.pollStep hw
  | receive => rw [workerStep_receive hw]; exact h.receiveStep hw a
  | diagnose => rw [workerStep_diagnose hw]; exact h.diagnoseStep hw
  | attempt => rw [workerStep_attempt hw]; exact h.attemptStep hw
  | finish => rw [workerStep_finish hw]; exact h.finishStep hw a b

theorem exec {i : Instr} {t : State} (he : exec i s = .next t) : SessionInv t := by
  rcases exec_cases he with ⟨r, rfl⟩ | ⟨-, hlive, hvalid, rfl⟩ | ⟨-, -, -, rfl⟩ | ⟨-, rfl⟩
  · exact h.answered r
  · exact (h.startSession (State.live_eq_false.mp hlive) hvalid).answered _
  · exact (h.emit _).answered _
  · exact h.clearRunning.answered _

end

end SessionInv

/-- Settles O57, by the inversion of `step`: the worker's step at each of its positions, and a command by the inversion of `exec`. -/
theorem stepKeepsSessionInv : Obligations.StepKeepsSessionInv := by
  intro s t h hstep
  rcases step_cases hstep with ⟨-, rfl⟩ | ⟨a, b, rest, -, rfl⟩ | ⟨w, o, rest, i, -, -, hex⟩ | ⟨w, o, rest, e, -, -, rfl⟩
  · exact h
  · exact (h.nextInputs rest).workerStep a b
  · exact (h.acceptCommand o rest).exec hex
  · exact (h.acceptCommand o rest).answered _

/-- Settles O56: at rest in `IDLE` with every counter at zero. -/
theorem sessionInvAtReset : Obligations.SessionInvAtReset := fun _ hc =>
  .of_resting rfl ⟨hc, Nat.le_refl 0, Nat.zero_le 1, .inl rfl⟩ rfl rfl (Nat.zero_min _).symm (.inl ⟨rfl, rfl, rfl, rfl, rfl⟩)

end Sys2Proof.Machine
end

section
/-! PROOFS. The command word: the fields and the word determine each other (R100), and the decoder's map and the fields of an operation
are inverse to each other (R102), so a stream decodes to the operations it encodes and to nothing else; which words are illegal, and
what a step does with a legal word and with an illegal one (R105). -/

namespace Sys2Proof

/-! ### The fields and the word -/

/-- No bit of a word is outside its three fields (R100). -/
@[simp] theorem word_fieldsOf (w : Byte) : (fieldsOf w).word = w :=
  calc w.extractLsb' 4 4 ++ w.extractLsb' 2 2 ++ w.extractLsb' 0 2
    _ = w.extractLsb' 2 6 ++ w.extractLsb' 0 2 := by
      congr 1
      exact BitVec.extractLsb'_append_extractLsb'_eq_extractLsb' rfl
    _ = w.extractLsb' 0 8 := BitVec.extractLsb'_append_extractLsb'_eq_extractLsb' rfl
    _ = w := BitVec.extractLsb'_eq_self

@[simp] theorem fieldsOf_word (f : CmdFields) : fieldsOf f.word = f :=
  CmdFields.mk.injEq .. ▸
    ⟨(BitVec.extractLsb'_append_eq_of_le (by decide)).trans BitVec.extractLsb'_append_eq_left,
      (BitVec.extractLsb'_append_eq_of_le (by decide)).trans BitVec.extractLsb'_append_eq_right,
      BitVec.extractLsb'_append_eq_right⟩

/-- The fields of a word as numbers, the form in which R105 is stated. -/
theorem fieldsOf_toNat (w : Byte) : (fieldsOf w).op.toNat = w.toNat / 16 ∧ (fieldsOf w).zero.toNat = w.toNat / 4 % 4 ∧
    (fieldsOf w).rate.toNat = w.toNat % 4 := by
  have hw : w.toNat < 256 := w.isLt
  simp only [fieldsOf, BitVec.extractLsb'_toNat]
  omega

/-! ### The operation map -/

@[simp] theorem rateOfCode_code (r : Rate) : rateOfCode r.code = r := by cases r <;> rfl

/-- All four codes are legal (R97). -/
@[simp] theorem code_rateOfCode (c : BitVec 2) : (rateOfCode c).code = c := by
  revert c
  decide

theorem decodeUnrated_eq_ok {f : CmdFields} {i j : Instr} : decodeUnrated f i = .ok j ↔ f.rate = 0 ∧ i = j := by
  unfold decodeUnrated
  by_cases h : f.rate = 0 <;> simp only [h, if_true, if_false, Except.ok.injEq, true_and, false_and, reduceCtorEq]

theorem decodeFields_fields (i : Instr) : decodeFields i.fields = .ok i := by
  cases i with
  | encframe r | decframe r => simp [decodeFields, Instr.fields]
  | _ => rfl

theorem fields_zero (i : Instr) : i.fields.zero = 0 := by cases i <;> rfl

/-- `CMD[3:2]` is `00` in every command word, so `OP` and the rate field tell the operations apart. -/
theorem eq_fields {f : CmdFields} {i : Instr} (hzero : f.zero = 0) (hop : f.op.toNat = i.fields.op.toNat)
    (hrate : f.rate = i.fields.rate) : f = i.fields := by
  have hzero' : f.zero = i.fields.zero := hzero.trans (fields_zero i).symm
  have hop' : f.op = i.fields.op := BitVec.eq_of_toNat_eq hop
  cases f
  cases h : i.fields
  simp_all

theorem eq_fields_of_decodeUnrated {f : CmdFields} {i j : Instr} (h : decodeUnrated f i = .ok j) (hzero : f.zero = 0)
    (hop : f.op.toNat = i.fields.op.toNat) (hrate : i.fields.rate = 0) : f = j.fields := by
  obtain ⟨hr, rfl⟩ := decodeUnrated_eq_ok.mp h
  exact eq_fields hzero hop (hr.trans hrate.symm)

/-- The decoder's map undoes the fields of an operation: the cases are the rows of R102. -/
theorem eq_fields_of_decodeFields {f : CmdFields} {i : Instr} (h : decodeFields f = .ok i) : f = i.fields := by
  unfold decodeFields at h
  split at h
  · cases h
  rename_i hz
  have hzero : f.zero = 0 := not_not.mp hz
  have hcode {r : Rate} (e : rateOfCode f.rate = r) : f.rate = r.code := by rw [← e, code_rateOfCode]
  split at h <;> rename_i hop
  case h_6 | h_7 => split at h <;> rename_i hr <;> cases h <;> exact eq_fields hzero hop (hcode hr)
  case h_8 | h_9 => cases h; exact eq_fields hzero hop (hcode rfl)
  case h_14 => cases h
  all_goals exact eq_fields_of_decodeUnrated h hzero hop rfl

theorem decodeFields_eq_ok {f : CmdFields} {i : Instr} : decodeFields f = .ok i ↔ f = i.fields :=
  ⟨eq_fields_of_decodeFields, fun h => h ▸ decodeFields_fields i⟩

/-- The only word of an operation is the one the encoder gives. -/
theorem decodeWord_eq_ok {w : Byte} {i : Instr} : decodeWord w = .ok i ↔ w = i.fields.word := by
  unfold decodeWord
  rw [decodeFields_eq_ok]
  exact ⟨fun h => by rw [← h, word_fieldsOf], fun h => by rw [h, fieldsOf_word]⟩

/-! ### Streams of commands -/

theorem decodeAll_cons_eq_ok {w : Byte} {ws : Bytes} {is : List Instr} :
    decodeAll (w :: ws) = .ok is ↔ ∃ i is', decodeWord w = .ok i ∧ decodeAll ws = .ok is' ∧ is = i :: is' := by
  cases hw : decodeWord w <;> cases hws : decodeAll ws <;> simp [decodeAll, hw, hws, eq_comm]

/-- A stream decodes to the operations whose words it lists, in their order, and to no others. -/
theorem decodeAll_eq_ok {ws : Bytes} {is : List Instr} : decodeAll ws = .ok is ↔ ws = is.flatMap encode := by
  induction ws generalizing is with
  | nil => cases is <;> simp [decodeAll, encode]
  | cons w ws ih =>
    simp only [decodeAll_cons_eq_ok, decodeWord_eq_ok, ih]
    cases is with
    | nil => simp
    | cons i is => simp [encode]

/-- Settles O3, by induction on the stream: each word is that of the operation it selects. -/
theorem decodeEncodeAgree : Obligations.DecodeEncodeAgree :=
  ⟨fun _ => decodeAll_eq_ok.mpr rfl, fun _ _ => decodeAll_eq_ok.mp⟩

/-! ### Legal words -/

theorem wf_iff (f : CmdFields) :
    f.wf = true ↔ f.op.toNat ≤ 12 ∧ f.zero = 0 ∧ (5 ≤ f.op.toNat ∧ f.op.toNat ≤ 8 ∨ f.rate = 0) := by
  simp [CmdFields.wf, CmdFields.opAssigned, CmdFields.zeroClear, CmdFields.rateAllowed, CmdFields.rated, and_assoc]

/-- The fields of each operation pass the checks of R105. -/
theorem fields_wf (i : Instr) : i.fields.wf = true := by
  cases i with
  | encframe r => exact (Laws.LegalWord.encframe r).1
  | decframe r => exact (Laws.LegalWord.decframe r).1
  | _ => rfl

/-- Fields that pass the checks of R105 select an operation. -/
theorem exists_decodeFields_of_wf {f : CmdFields} (h : f.wf = true) : ∃ i, decodeFields f = .ok i := by
  obtain ⟨hop, hzero, hrate⟩ := (wf_iff f).mp h
  simp only [decodeFields, hzero, ne_eq, not_true_eq_false, if_false]
  split
  case h_6 | h_7 => split <;> exact ⟨_, rfl⟩
  case h_8 | h_9 => exact ⟨_, rfl⟩
  case h_14 => simp only [imp_false] at *; omega
  all_goals exact ⟨_, decodeUnrated_eq_ok.mpr ⟨hrate.resolve_left (by omega), rfl⟩⟩

/-- The legal words, by their bits (R105). -/
theorem exists_decodeWord_iff (w : Byte) : (∃ i, decodeWord w = .ok i) ↔
    w.toNat / 16 ≤ 12 ∧ w.toNat / 4 % 4 = 0 ∧ (5 ≤ w.toNat / 16 ∧ w.toNat / 16 ≤ 8 ∨ w.toNat % 4 = 0) := by
  obtain ⟨hop, hzero, hrate⟩ := fieldsOf_toNat w
  have hwf : (∃ i, decodeWord w = .ok i) ↔ (fieldsOf w).wf = true :=
    ⟨fun ⟨i, h⟩ => decodeFields_eq_ok.mp h ▸ fields_wf i, exists_decodeFields_of_wf⟩
  rw [hwf, wf_iff, BitVec.toNat_eq, BitVec.toNat_eq (x := (fieldsOf w).rate), hop, hzero, hrate]
  rfl

theorem countP_legal : (List.range 256).countP (fun n => (decodeWord (BitVec.ofNat 8 n)).isOk) = 25 := by
  decide +kernel

theorem countP_illegal : (List.range 256).countP (fun n => !(decodeWord (BitVec.ofNat 8 n)).isOk) = 231 := by
  decide +kernel

/-- Settles O1: each row of R102 by evaluation; a word that decodes passes the checks of R105, so its `OP` is not reserved. -/
theorem commandWordMap : Obligations.CommandWordMap := by
  refine ⟨by decide +kernel, fun w i hreserved h => ?_, countP_legal⟩
  obtain ⟨hop, -⟩ := (exists_decodeWord_iff w).mp ⟨i, h⟩
  omega

end Sys2Proof

namespace Sys2Proof.Machine

/-! ### A step with a command -/

theorem fetchCommand_eq (w : Byte) : fetchCommand w = decodeWord w := by
  cases h : decodeWord w <;> simp [fetchCommand, decode, h]

theorem step_legalCommand {s : State} {w : Byte} {operands : Operands} {rest : List Input} {i : Instr}
    (hin : s.inputs = .command w operands :: rest) (h : decodeWord w = .ok i) :
    step s = exec i (s.acceptCommand operands rest) := by
  simp only [step, hin, fetchCommand_eq, h]

theorem step_illegalCommand {s : State} {w : Byte} {operands : Operands} {rest : List Input}
    (hin : s.inputs = .command w operands :: rest) (h : ¬ ∃ i, decodeWord w = .ok i) :
    step s = .next ((s.acceptCommand operands rest).answered ⟨.illegalCmd, none, .none⟩) := by
  cases hd : decodeWord w with
  | ok i => exact absurd ⟨i, hd⟩ h
  | error e =>
    simp only [step, hin, fetchCommand_eq, hd]
    rfl

/-- Settles O2: the illegal words are those that fail a check of R105, and a step answers one before any look at the state. -/
theorem illegalWordAnswered : Obligations.IllegalWordAnswered := by
  refine ⟨fun w => ?_, fun _ _ _ _ => step_illegalCommand, countP_illegal⟩
  rw [exists_decodeWord_iff]
  omega

theorem decode_singleton_eq_ok {w : Byte} {i : Instr} {rest : Bytes} :
    decode [w] = .ok (i, rest) ↔ decodeWord w = .ok i ∧ rest = [] := by
  cases h : decodeWord w <;> simp [decode, h, eq_comm]

/-- A row of the opcode table of 8 bits is one command word. -/
theorem decodeTableWord_eight_eq_some {w : Nat} {i : Instr} :
    decodeTableWord 8 w = some i ↔ decodeWord (BitVec.ofNat 8 w) = .ok i := by
  have hbytes : bytesOfNat (8 / 8) w = [BitVec.ofNat 8 w] := rfl
  unfold decodeTableWord
  rw [hbytes, decode]
  cases decodeWord (BitVec.ofNat 8 w) <;> simp

/-- Settles O4. The command that `withFetchWord` presents comes with the operands that stand at the port, so nothing but the operation
changes the state. -/
theorem stepRunsDecodedCommand : Obligations.StepRunsDecodedCommand := by
  refine ⟨fun s w operands rest i hin h => step_legalCommand hin (decode_singleton_eq_ok.mp h).1, fun s w i h => ?_⟩
  have hin : (s.withFetchWord 8 w).inputs = .command (BitVec.ofNat 8 w) s.operands :: s.inputs := rfl
  exact step_legalCommand hin (decodeTableWord_eight_eq_some.mp h)

end Sys2Proof.Machine
end

section
/-! PROOFS. The operand domains (R106): a datapath command with a sequence operand answers from its operand inside the domain of its
length, and with `BAD_OPERAND` outside it. -/

namespace Sys2Proof.Machine

/-- The lengths that R106 allows the sequence operand of an operation, beside the bound of `MAX_SEQ`. -/
def lengthAllowed (n : Nat) : Instr → Prop
  | .bitsu32 => n = 32
  | .encframe _ => n ≤ maxPayload
  | _ => True

theorem lengthAllowed_bitsu32 (n : Nat) : lengthAllowed n .bitsu32 ↔ n = 32 := .rfl

theorem lengthAllowed_encframe (n : Nat) (rate : Rate) : lengthAllowed n (.encframe rate) ↔ n ≤ maxPayload := .rfl

theorem okResponse_status (r : Result) : (Response.ok r).status ≠ .badOperand := by simp [Response.ok]

theorem decodeFrameResponse_status (d : Except MissCode Bytes) : (decodeFrameResponse d).status ≠ .badOperand := by
  cases d <;> simp [decodeFrameResponse, Response.ok, Response.notFound]

theorem findPreambleResponse_status (o : Option Nat) : (findPreambleResponse o).status ≠ .badOperand := by
  cases o <;> simp [findPreambleResponse, Response.ok, Response.notFound]

/-- What a sequence command can do: its own response inside the domain, `BAD_OPERAND` outside it. -/
def AnswersByDomain (i : Instr) (s : State) (n : Nat) : Prop :=
  ((lengthAllowed n i ∧ s.within n) ∧ ∃ r : Response, r.status ≠ .badOperand ∧ exec i s = .next (s.answered r)) ∨
    (¬ (lengthAllowed n i ∧ s.within n) ∧ exec i s = .next (s.answered ⟨.badOperand, none, .none⟩))

/-- An operation that tests nothing but `MAX_SEQ`. -/
theorem answersByDomain_of_eq {i : Instr} {s : State} {n : Nat} {r : Response} (hallowed : lengthAllowed n i)
    (hr : r.status ≠ .badOperand) (h : exec i s = sequenceCommand s n r) : AnswersByDomain i s n := by
  unfold AnswersByDomain
  rw [h]
  rcases sequenceCommand_spec s n r with ⟨hw, e⟩ | ⟨hw, e⟩
  · exact .inl ⟨⟨hallowed, hw⟩, r, hr, e⟩
  · exact .inr ⟨fun hd => hw hd.2, e⟩

/-- An operation that tests its own bound before `MAX_SEQ`. -/
theorem answersByDomain_of_ite {i : Instr} {s : State} {n : Nat} {r : Response} {p : Prop} [Decidable p]
    (hallowed : lengthAllowed n i ↔ p) (hr : r.status ≠ .badOperand)
    (h : exec i s = if p then sequenceCommand s n r else badOperand s) : AnswersByDomain i s n := by
  by_cases hp : p
  · exact answersByDomain_of_eq (hallowed.mpr hp) hr (by rw [h, if_pos hp])
  · exact .inr ⟨fun hd => hp (hallowed.mp hd.1), by rw [h, if_neg hp, badOperand_eq]⟩

theorem answersByDomain {i : Instr} {s : State} {n : Nat} (h : sequenceLength s i = some n) : AnswersByDomain i s n := by
  cases i with
  | u32bits | sstart | sstop | ssnap => cases h
  | bitsu32 => cases h; exact answersByDomain_of_ite (lengthAllowed_bitsu32 _) (okResponse_status _) rfl
  | encframe r => cases h; exact answersByDomain_of_ite (lengthAllowed_encframe _ r) (okResponse_status _) rfl
  | decframe r => cases h; exact answersByDomain_of_eq trivial (decodeFrameResponse_status _) rfl
  | findpre => cases h; exact answersByDomain_of_eq trivial (findPreambleResponse_status _) rfl
  | _ => cases h; exact answersByDomain_of_eq trivial (okResponse_status _) rfl

theorem exec_outside_domain {i : Instr} {s : State} {n : Nat} (h : sequenceLength s i = some n)
    (hd : ¬ (lengthAllowed n i ∧ s.within n)) : exec i s = .next (s.answered ⟨.badOperand, none, .none⟩) := by
  rcases answersByDomain h with ⟨hin, -⟩ | ⟨-, e⟩
  · exact absurd hin hd
  · exact e

theorem exec_inside_domain {i : Instr} {s : State} {n : Nat} (h : sequenceLength s i = some n)
    (hallowed : lengthAllowed n i) (hw : s.within n) :
    ∃ r : Response, r.status ≠ .badOperand ∧ exec i s = .next (s.answered r) := by
  rcases answersByDomain h with ⟨-, e⟩ | ⟨hout, -⟩
  · exact e
  · exact absurd ⟨hallowed, hw⟩ hout

/-- A frame whose 64 header bits do not stand in the sequence (R206). -/
theorem decodeFrame_shortHeader {bits : Bits} {start : Nat} (h : bits.length < start + 64) (rate : Rate) :
    decodeFrame bits start rate = .error .shortHeader := by
  simp only [decodeFrame, h, if_true]

/-- Settles O7: each clause is a side of the domain, but for a start index at the end, which leaves no header. -/
theorem operandDomains : Obligations.OperandDomains := by
  refine ⟨fun i s n m hn hmax hlt => ?_, fun s hlen => ?_, fun r s hlen => ?_, fun r s hw hstart => ?_,
    fun i s n hn hw h32 hpay => ?_⟩
  · exact exec_outside_domain hn fun ⟨_, hw⟩ => absurd (hw m hmax) (by omega)
  · exact exec_outside_domain rfl fun ⟨h, _⟩ => hlen h
  · exact exec_outside_domain rfl fun ⟨h, _⟩ => absurd ((lengthAllowed_encframe _ r).mp h) (by simp only [maxPayload]; omega)
  · calc exec (.decframe r) s
      _ = .next (s.answered (decodeFrameResponse (decodeFrame s.operands.bits s.operands.start r))) := sequenceCommand_within hw _
      _ = .next (s.answered ⟨.none, some .shortHeader, .none⟩) := by rw [decodeFrame_shortHeader (by omega)]; rfl
  · have hallowed : lengthAllowed n i := by
      cases i with
      | bitsu32 => exact h32 rfl
      | encframe r => exact hpay ⟨r, rfl⟩
      | _ => trivial
    obtain ⟨r, hr, e⟩ := exec_inside_domain hn hallowed hw
    rw [e]
    intro heq
    injection heq with heq
    exact hr (by rw [answered_injective s heq])

end Sys2Proof.Machine
end

section
/-! PROOFS. The lengths of frames (R96, R137, R167) and the receive window (R264); the preamble (R92). -/

namespace Sys2Proof.Machine

/-! ### The length of an encoding -/

/-- The length of an encoding is a function of the length of the input (R167). -/
theorem fecEncode_length (rate : Rate) (bits : Bits) : (fecEncode rate bits).length = encOut bits.length rate := by
  cases rate with
  | r12 =>
    change (fecEncode12 bits).length = 2 * bits.length
    induction bits with
    | nil => rfl
    | cons b rest ih => simp only [fecEncode12, List.length_cons]; omega
  | r13 =>
    change (fecEncode13 bits).length = 3 * bits.length
    induction bits with
    | nil => rfl
    | cons b rest ih => simp only [fecEncode13, List.length_cons]; omega
  | r23 =>
    change (fecEncode23 bits).length = 3 * ((bits.length + 1) / 2)
    induction bits using fecEncode23.induct with
    | case1 b0 b1 rest ih => simp only [fecEncode23, List.length_cons]; omega
    | case2 b => simp [fecEncode23]
    | case3 => rfl
  | r34 =>
    change (fecEncode34 bits).length = 4 * ((bits.length + 2) / 3)
    induction bits using fecEncode34.induct with
    | case1 b0 b1 b2 rest ih => simp only [fecEncode34, List.length_cons]; omega
    | case2 b0 b1 => simp [fecEncode34]
    | case3 b0 => simp [fecEncode34]
    | case4 => rfl

theorem encodeFrame_length (payload : Bytes) (rate : Rate) :
    (encodeFrame payload rate).length = 128 + encOut (8 * payload.length) rate := by
  have hpre : preamble.length = 64 := rfl
  simp only [encodeFrame, u32ToBits, List.length_append, bitsMsbFirst_length, hpre, fecEncode_length, bytesToBits_length]

/-- Whole bytes are encoded in whole groups of 4 bits: 16, 24 and 12 bits a byte, and blocks of 4 bits at rate 3/4. -/
theorem four_dvd_encOut_bytes (len : Nat) (rate : Rate) : 4 ∣ encOut (8 * len) rate := by
  cases rate <;> simp only [encOut] <;> omega

theorem four_dvd_encodeFrame_length (payload : Bytes) (rate : Rate) : 4 ∣ (encodeFrame payload rate).length := by
  rw [encodeFrame_length]
  exact Nat.dvd_add (by decide) (four_dvd_encOut_bytes payload.length rate)

/-- Settles O50: the length of a frame carries the factor 4 through the product. -/
theorem receiveWindowExact : Obligations.ReceiveWindowExact :=
  ⟨four_dvd_encodeFrame_length,
    fun payload r _ => Nat.mul_div_cancel' (Dvd.dvd.mul_left (Dvd.dvd.mul_right (four_dvd_encodeFrame_length payload r) _) _),
    fun n => (receiveWindow_exact n).2⟩

/-! ### The preamble -/

/-- Settles O28, by evaluation of the 64 elements. -/
theorem preambleConstant : Obligations.PreambleConstant :=
  ⟨by decide, by decide, by decide, by decide⟩

end Sys2Proof.Machine
end

section
/-! PROOFS. The codec (R131 to R136): a word and its bits determine each other, the value of a bit sequence is its binary number, and
every bit sequence is whole bytes and a rest of fewer than 8 bits, which the conversion to bytes drops; the laws and the answers of the
four operations follow. -/

namespace Sys2Proof.Machine

/-! ### A word and its bits -/

theorem ofBitsMsbFirst_bitsMsbFirst {w : Nat} (x : BitVec w) : ofBitsMsbFirst w (bitsMsbFirst x) = x := by
  refine BitVec.eq_of_getLsbD_eq fun i hi => ?_
  have hidx : w - 1 - (w - 1 - i) = i := by omega
  have hbit : (bitsMsbFirst x).getD (w - 1 - i) false = x.getLsbD i := by
    rw [List.getD_eq_getElem?_getD, bitsMsbFirst_getElem? x (by omega), hidx, Option.getD_some]
  rw [ofBitsMsbFirst_getLsbD, bitsMsbFirst_length, hbit]
  simp [hi]

theorem bitsMsbFirst_ofBitsMsbFirst {w : Nat} {bits : Bits} (h : bits.length = w) :
    bitsMsbFirst (ofBitsMsbFirst w bits) = bits := by
  refine List.ext_getElem (by simp [h]) fun j _ hj => ?_
  have hlow : w - 1 - j < w := by omega
  have hidx : w - 1 - (w - 1 - j) = j := by omega
  simp [bitsMsbFirst, ofBitsMsbFirst_getLsbD, h, hlow, hidx, List.getElem?_eq_getElem hj]

/-! ### The number a bit sequence stands for -/

/-- The number whose binary digits are the bits, the most significant first: the right side of R134. -/
def binaryValue (bits : Bits) : Nat :=
  ((List.range bits.length).map fun j => (if bits[j]? = some true then 1 else 0) * 2 ^ (bits.length - 1 - j)).sum

@[simp] theorem binaryValue_nil : binaryValue [] = 0 := rfl

theorem binaryValue_cons (b : Bool) (rest : Bits) :
    binaryValue (b :: rest) = b.toNat * 2 ^ rest.length + binaryValue rest := by
  have hexp (j : Nat) : rest.length - 1 - j = rest.length - (j + 1) := by omega
  cases b <;> simp [binaryValue, List.range_succ_eq_map, Function.comp_def, hexp]

theorem binaryValue_lt (bits : Bits) : binaryValue bits < 2 ^ bits.length := by
  induction bits with
  | nil => decide
  | cons b rest ih =>
    rw [binaryValue_cons, List.length_cons, Nat.pow_succ]
    have hdigit : b.toNat * 2 ^ rest.length ≤ 1 * 2 ^ rest.length := Nat.mul_le_mul_right _ b.toNat_le
    omega

theorem shiftIn_toNat {w : Nat} (sh : BitVec w) (b : Bool) : (shiftIn sh b).toNat = (2 * sh.toNat + b.toNat) % 2 ^ w := by
  have hconcat : shiftIn sh b = sh.shiftConcat b := by
    refine BitVec.eq_of_getLsbD_eq fun i hi => ?_
    rw [shiftIn_getLsbD, BitVec.getLsbD_shiftConcat]
  rw [hconcat, BitVec.toNat_shiftConcat, Nat.shiftLeft_eq, Nat.pow_one, Nat.mul_comm]

/-- The shift register doubles what it holds with every bit it takes, and keeps the low `w` bits. -/
theorem foldl_shiftIn_toNat {w : Nat} (sh : BitVec w) (bits : Bits) :
    (bits.foldl shiftIn sh).toNat = (sh.toNat * 2 ^ bits.length + binaryValue bits) % 2 ^ w := by
  induction bits generalizing sh with
  | nil => simp [Nat.mod_eq_of_lt sh.isLt]
  | cons b rest ih =>
    rw [List.foldl_cons, ih, shiftIn_toNat, binaryValue_cons, Nat.add_mod, Nat.mod_mul_mod, ← Nat.add_mod]
    congr 1
    rw [List.length_cons, Nat.pow_succ]
    ring

theorem ofBitsMsbFirst_toNat {w : Nat} {bits : Bits} (h : bits.length = w) : (ofBitsMsbFirst w bits).toNat = binaryValue bits := by
  have hlt : binaryValue bits < 2 ^ w := h ▸ binaryValue_lt bits
  simp [ofBitsMsbFirst, foldl_shiftIn_toNat, Nat.mod_eq_of_lt hlt]

/-! ### Whole bytes and a rest -/

theorem bytesToBits_append (a b : Bytes) : bytesToBits (a ++ b) = bytesToBits a ++ bytesToBits b :=
  List.flatMap_append

theorem bytesToBits_getElem? {bytes : Bytes} {k j : Nat} (hk : k < bytes.length) (hj : j < 8) :
    (bytesToBits bytes)[8 * k + j]? = some (bytes[k].getLsbD (7 - j)) := by
  induction bytes generalizing k with
  | nil => cases hk
  | cons b rest ih =>
    rw [bytesToBits_cons]
    cases k with
    | zero =>
      rw [List.getElem?_append_left (by simpa using hj), Nat.mul_zero, Nat.zero_add]
      exact bitsMsbFirst_getElem? b hj
    | succ k =>
      rw [List.getElem?_append_right (by simp; omega), bitsMsbFirst_length, show 8 * (k + 1) + j - 8 = 8 * k + j by omega]
      exact ih (Nat.lt_of_succ_lt_succ hk)

theorem bitsToBytes_of_length_lt {rest : Bits} (h : rest.length < 8) : bitsToBytes rest = [] := by
  unfold bitsToBytes
  split
  · simp only [List.length_cons] at h
    omega
  · rfl

theorem bitsToBytes_bitsMsbFirst_append (b : Byte) (rest : Bits) :
    bitsToBytes (bitsMsbFirst b ++ rest) = b :: bitsToBytes rest :=
  calc bitsToBytes (bitsMsbFirst b ++ rest)
    _ = ofBitsMsbFirst 8 (bitsMsbFirst b) :: bitsToBytes rest := bitsToBytes_eight ..
    _ = b :: bitsToBytes rest := by rw [ofBitsMsbFirst_bitsMsbFirst]

theorem bitsToBytes_bytesToBits_append (bytes : Bytes) (bits : Bits) :
    bitsToBytes (bytesToBits bytes ++ bits) = bytes ++ bitsToBytes bits := by
  induction bytes with
  | nil => rfl
  | cons b rest ih => rw [bytesToBits_cons, List.append_assoc, bitsToBytes_bitsMsbFirst_append, ih, List.cons_append]

/-- Every bit sequence is some whole bytes, followed by a rest too short for one more. -/
theorem exists_eq_bytesToBits_append (bits : Bits) :
    ∃ bytes rest, bits = bytesToBits bytes ++ rest ∧ rest.length < 8 := by
  induction bits using bitsToBytes.induct with
  | case1 b0 b1 b2 b3 b4 b5 b6 b7 tail ih =>
    obtain ⟨bytes, rest, htail, hrest⟩ := ih
    have hbyte : bitsMsbFirst (ofBitsMsbFirst 8 [b0, b1, b2, b3, b4, b5, b6, b7]) = [b0, b1, b2, b3, b4, b5, b6, b7] :=
      bitsMsbFirst_ofBitsMsbFirst rfl
    refine ⟨ofBitsMsbFirst 8 [b0, b1, b2, b3, b4, b5, b6, b7] :: bytes, rest, ?_, hrest⟩
    rw [bytesToBits_cons, hbyte, List.append_assoc, ← htail]
    rfl
  | case2 bits hshort =>
    refine ⟨[], bits, rfl, Nat.lt_of_not_le fun h => ?_⟩
    match bits, h with
    | b0 :: b1 :: b2 :: b3 :: b4 :: b5 :: b6 :: b7 :: rest, _ => exact hshort b0 b1 b2 b3 b4 b5 b6 b7 rest rfl

theorem bitsToBytes_bytesToBits_append_rest (bytes : Bytes) {rest : Bits} (h : rest.length < 8) :
    bitsToBytes (bytesToBits bytes ++ rest) = bytes := by
  rw [bitsToBytes_bytesToBits_append, bitsToBytes_of_length_lt h, List.append_nil]

theorem bitsToBytes_bytesToBits (bytes : Bytes) : bitsToBytes (bytesToBits bytes) = bytes := by
  simpa using bitsToBytes_bytesToBits_append_rest bytes (rest := []) (by decide)

theorem bitsToBytes_length (bits : Bits) : (bitsToBytes bits).length = bits.length / 8 := by
  obtain ⟨bytes, rest, rfl, hrest⟩ := exists_eq_bytesToBits_append bits
  rw [bitsToBytes_bytesToBits_append_rest bytes hrest, List.length_append, bytesToBits_length]
  omega

theorem bytesToBits_bitsToBytes (bits : Bits) : bytesToBits (bitsToBytes bits) = bits.take (8 * (bits.length / 8)) := by
  obtain ⟨bytes, rest, rfl, hrest⟩ := exists_eq_bytesToBits_append bits
  have hcut : 8 * ((bytesToBits bytes ++ rest).length / 8) = (bytesToBits bytes).length := by
    rw [List.length_append, bytesToBits_length]
    omega
  rw [bitsToBytes_bytesToBits_append_rest bytes hrest, hcut, List.take_left]

theorem bytesToBits_bitsToBytes_eq_self_iff (bits : Bits) : bytesToBits (bitsToBytes bits) = bits ↔ bits.length % 8 = 0 := by
  rw [bytesToBits_bitsToBytes, List.take_eq_self_iff]
  omega

theorem bitsToBytes_append {a : Bits} (h : a.length % 8 = 0) (b : Bits) :
    bitsToBytes (a ++ b) = bitsToBytes a ++ bitsToBytes b :=
  calc bitsToBytes (a ++ b)
    _ = bitsToBytes (bytesToBits (bitsToBytes a) ++ b) := by rw [(bytesToBits_bitsToBytes_eq_self_iff a).mpr h]
    _ = bitsToBytes a ++ bitsToBytes b := bitsToBytes_bytesToBits_append (bitsToBytes a) b

/-- Element `8k + j` of a bit sequence is bit `7 - j` of its byte `k` (R132). -/
theorem getElem?_eq_bitsToBytes_getLsbD {bits : Bits} {k j : Nat} (hk : k < (bitsToBytes bits).length) (hj : j < 8) :
    bits[8 * k + j]? = some ((bitsToBytes bits)[k].getLsbD (7 - j)) := by
  have hcut : 8 * k + j < 8 * (bits.length / 8) := by
    rw [bitsToBytes_length] at hk
    omega
  calc bits[8 * k + j]?
    _ = (bits.take (8 * (bits.length / 8)))[8 * k + j]? := (List.getElem?_take_of_lt hcut).symm
    _ = (bytesToBits (bitsToBytes bits))[8 * k + j]? := by rw [bytesToBits_bitsToBytes]
    _ = some ((bitsToBytes bits)[k].getLsbD (7 - j)) := bytesToBits_getElem? hk hj

/-! ### The laws of the codec -/

/-- Settles O12, from the two inverse laws of a word and its bits and from whole bytes being all that the bytes keep. -/
theorem codecRoundTrips : Obligations.CodecRoundTrips :=
  ⟨ofBitsMsbFirst_bitsMsbFirst, bitsToBytes_bytesToBits, fun _ => bitsMsbFirst_ofBitsMsbFirst, bytesToBits_bitsToBytes,
    bytesToBits_bitsToBytes_eq_self_iff⟩

/-- Settles O13. -/
theorem codecLengthsAndConcatenation : Obligations.CodecLengthsAndConcatenation :=
  ⟨bytesToBits_length, bitsToBytes_length, bitsMsbFirst_length, bytesToBits_append, fun _ b h => bitsToBytes_append h b⟩

/-! ### The operations -/

/-- Settles O8: the answer is `bytesToBits` of the operand. -/
theorem bytesToBitsResult : Obligations.BytesToBitsResult :=
  ⟨decodeWord_eq_ok.mpr rfl, fun s hw =>
    ⟨bytesToBits s.operands.bytes, sequenceCommand_within hw _, bytesToBits_length _, fun _ _ => bytesToBits_getElem?⟩⟩

/-- Settles O9: the answer is `bitsToBytes` of the operand. -/
theorem bitsToBytesResult : Obligations.BitsToBytesResult :=
  ⟨decodeWord_eq_ok.mpr rfl, fun s hw =>
    ⟨bitsToBytes s.operands.bits, sequenceCommand_within hw _, bitsToBytes_length _, fun _ _ => getElem?_eq_bitsToBytes_getLsbD⟩⟩

/-- Settles O10: the answer is `u32ToBits` of the operand, in every state. -/
theorem u32ToBitsResult : Obligations.U32ToBitsResult :=
  ⟨decodeWord_eq_ok.mpr rfl, fun s =>
    ⟨u32ToBits s.operands.word, answer_eq s _, bitsMsbFirst_length _, fun _ => bitsMsbFirst_getElem? s.operands.word⟩⟩

theorem exec_bitsu32_of_length {s : State} (hlen : s.operands.bits.length = 32) (hw : s.within 32) :
    exec .bitsu32 s = .next (s.answered ⟨.ok, none, .word (bitsToU32 s.operands.bits)⟩) :=
  (if_pos hlen).trans (sequenceCommand_within (hlen.symm ▸ hw) _)

/-- Settles O11: off 32 bits the operand is outside its domain; at 32 bits no bit is shifted out of the register. -/
theorem bitsToU32Result : Obligations.BitsToU32Result := by
  refine ⟨decodeWord_eq_ok.mpr rfl, fun s hlen => exec_outside_domain rfl fun ⟨h, _⟩ => hlen h, fun s hlen hw => ?_⟩
  refine ⟨bitsToU32 s.operands.bits, exec_bitsu32_of_length hlen hw, ?_⟩
  have hvalue : (bitsToU32 s.operands.bits).toNat = binaryValue s.operands.bits := ofBitsMsbFirst_toNat hlen
  rw [hvalue, binaryValue, hlen]

end Sys2Proof.Machine
end

section
/-! PROOFS. The CRC Engine (R152 to R156): one bit of the payload enters the accumulator by `crcBit`, the step of the shift register seen
in a mirror. Eight such steps are the step of the loop by one byte, and by linearity the step of the table; each step is injective, so
what differs in one byte stays different. -/

namespace Sys2Proof.Machine

/-! ### The shift of the loop -/

theorem crcShift_getLsbD (acc : U32) (i : Nat) :
    (crcShift acc).getLsbD i = (acc.getLsbD (i + 1) ^^ (acc.getLsbD 0 && crcPolyReversed.getLsbD i)) := by
  unfold crcShift
  cases h : acc.getLsbD 0 <;> simp [Nat.add_comm]

/-- The shift is linear over exclusive or. -/
theorem crcShift_xor (x y : U32) : crcShift (x ^^^ y) = crcShift x ^^^ crcShift y := by
  refine BitVec.eq_of_getLsbD_eq fun i _ => ?_
  simp only [crcShift_getLsbD, BitVec.getLsbD_xor, Bool.and_xor_distrib_right, Bool.xor_assoc, Bool.xor_left_comm]

/-- Bit 31 of the result is the bit that left, so nothing is lost. -/
theorem crcShift_injective : Function.Injective crcShift := by
  intro x y h
  have hbit (i : Nat) : (x.getLsbD (i + 1) ^^ (x.getLsbD 0 && crcPolyReversed.getLsbD i)) =
      (y.getLsbD (i + 1) ^^ (y.getLsbD 0 && crcPolyReversed.getLsbD i)) := by
    rw [← crcShift_getLsbD, h, crcShift_getLsbD]
  have hzero : x.getLsbD 0 = y.getLsbD 0 := by simpa [crcPolyReversed] using hbit 31
  refine BitVec.eq_of_getLsbD_eq fun i _ => ?_
  cases i with
  | zero => exact hzero
  | succ i => exact Bool.xor_left_inj.mp (hzero ▸ hbit i)

theorem crcEight_eq_iterate (acc : U32) : crcEight acc = crcShift^[8] acc := rfl

theorem crcEight_injective : Function.Injective crcEight := crcShift_injective.iterate 8

/-! ### The payload bit by bit -/

/-- A bit as the word 0 or 1. -/
def bitWord (b : Bool) : U32 := (BitVec.ofBool b).setWidth 32

@[simp] theorem bitWord_getLsbD (b : Bool) (i : Nat) : (bitWord b).getLsbD i = (decide (i = 0) && b) := by
  cases i <;> simp [bitWord]

/-- One bit enters bit 0 of the accumulator, and one shift follows. -/
def crcBit (acc : U32) (b : Bool) : U32 := crcShift (acc ^^^ bitWord b)

/-- The low `n` bits of a word, the least significant first. -/
def lowBits {w : Nat} (x : BitVec w) (n : Nat) : Bits := (List.range n).map fun j => x.getLsbD j

theorem lowBits_succ {w : Nat} (x : BitVec w) (n : Nat) : lowBits x (n + 1) = lowBits x n ++ [x.getLsbD n] := by
  simp [lowBits, List.range_succ]

theorem lowBits_setWidth {v : Nat} (x : BitVec v) {w n : Nat} (h : n ≤ w) : lowBits (x.setWidth w) n = lowBits x n := by
  refine List.map_congr_left fun j hj => ?_
  have hw : j < w := (List.mem_range.mp hj).trans_le h
  simp [hw]

/-- A word's lowest bit may enter alone: the shift of the rest only moves it. -/
theorem crcShift_xor_eq_crcBit (acc x : U32) : crcShift (acc ^^^ x) = crcBit acc (x.getLsbD 0) ^^^ (x >>> 1) := by
  have hsplit : crcShift x = crcShift (bitWord (x.getLsbD 0)) ^^^ (x >>> 1) := by
    refine BitVec.eq_of_getLsbD_eq fun i _ => ?_
    simp [-BitVec.getLsbD_eq_getElem, crcShift_getLsbD, Nat.add_comm, Bool.xor_comm]
  rw [crcBit, crcShift_xor, hsplit, crcShift_xor, BitVec.xor_assoc]

/-- A word may enter the accumulator whole or bit by bit: after `n` shifts they differ by the bits of the word not yet at bit 0. -/
theorem iterate_crcShift_xor (acc x : U32) (n : Nat) :
    crcShift^[n] (acc ^^^ x) = (lowBits x n).foldl crcBit acc ^^^ (x >>> n) := by
  induction n with
  | zero => simp [lowBits]
  | succ n ih =>
    rw [Function.iterate_succ_apply', ih, crcShift_xor_eq_crcBit, lowBits_succ, List.foldl_concat, BitVec.shiftRight_add]
    simp

theorem setWidth_byte_shiftRight (b : Byte) : b.setWidth 32 >>> 8 = 0#32 := by
  refine BitVec.eq_of_getLsbD_eq fun i _ => ?_
  simp

/-- One byte in the loop (R152) is its eight bits, the least significant first. -/
theorem crcByte_eq_foldl_crcBit (acc : U32) (b : Byte) : crcByte acc b = (lowBits b 8).foldl crcBit acc := by
  rw [crcByte, crcEight_eq_iterate, iterate_crcShift_xor, setWidth_byte_shiftRight, lowBits_setWidth b (by decide), BitVec.xor_zero]

theorem bitsLsbFirst_eq_flatMap (bytes : Bytes) : bitsLsbFirst bytes = bytes.flatMap fun b => lowBits b 8 := rfl

theorem foldl_crcBit_bitsLsbFirst (acc : U32) (bytes : Bytes) :
    (bitsLsbFirst bytes).foldl crcBit acc = bytes.foldl crcByte acc := by
  rw [bitsLsbFirst_eq_flatMap, List.foldl_flatMap, funext₂ crcByte_eq_foldl_crcBit]

/-! ### The shift register -/

theorem serialBit_getLsbD (r : U32) (b : Bool) {i : Nat} (hi : i < 32) :
    (serialBit r b).getLsbD i =
      ((decide (0 < i) && r.getLsbD (i - 1)) ^^ ((r.getLsbD 31 ^^ b) && crcPolyNormal.getLsbD i)) := by
  unfold serialBit
  cases h : r.getLsbD 31 ^^ b <;> cases i <;> simp [hi, -BitVec.getLsbD_eq_getElem]

/-- The two forms of the polynomial (R151) mirror each other. -/
theorem crcPolyReversed_eq_reverse : crcPolyReversed = crcPolyNormal.reverse := by decide +kernel

/-- The shift register (R153) is the loop in a mirror. -/
theorem serialBit_reverse (r : U32) (b : Bool) : (serialBit r b).reverse = crcBit r.reverse b := by
  refine BitVec.eq_of_getLsbD_eq fun i hi => ?_
  have hpos : 0 < 31 - i ↔ i + 1 < 32 := by omega
  have hprev : 31 - i - 1 = 30 - i := by omega
  rw [BitVec.getLsbD_reverse, BitVec.getMsbD_eq_getLsbD, serialBit_getLsbD r b (by omega), crcBit, crcShift_getLsbD,
    crcPolyReversed_eq_reverse]
  simp [-BitVec.getLsbD_eq_getElem, BitVec.getLsbD_reverse, BitVec.getMsbD_eq_getLsbD, hpos, hprev, hi]

theorem foldl_serialBit_reverse (r : U32) (bits : Bits) :
    (bits.foldl serialBit r).reverse = bits.foldl crcBit r.reverse :=
  (List.foldl_hom BitVec.reverse fun r b => (serialBit_reverse r b).symm).symm

/-- The initial value (R151) is its own mirror image. -/
theorem crcInit_reverse : BitVec.reverse (0xFFFFFFFF : U32) = 0xFFFFFFFF := by decide +kernel

theorem crc32_eq_crc32Serial (bytes : Bytes) : crc32 bytes = crc32Serial bytes := by
  rw [crc32Serial, foldl_serialBit_reverse, crcInit_reverse, foldl_crcBit_bitsLsbFirst]
  exact BitVec.xor_allOnes

/-! ### The table -/

/-- The printed table (R154) holds what the inner loop makes of each byte. -/
theorem crcTable_getD (b : Byte) : crcTable.getD b.toNat 0 = crcEight (b.setWidth 32) := by
  revert b
  decide +kernel

/-- Only the low byte of the accumulator meets the polynomial in eight shifts; the rest moves down. -/
theorem crcEight_eq_lowByte (x : U32) : crcEight x = crcEight ((x.setWidth 8).setWidth 32) ^^^ (x >>> 8) := by
  have hbits (y : U32) : crcEight y = (lowBits y 8).foldl crcBit 0 ^^^ (y >>> 8) := by
    rw [crcEight_eq_iterate, ← iterate_crcShift_xor]
    exact congrArg _ BitVec.zero_xor.symm
  have hlow : crcEight ((x.setWidth 8).setWidth 32) = (lowBits x 8).foldl crcBit 0 := by
    rw [hbits, setWidth_byte_shiftRight, lowBits_setWidth _ (by decide), lowBits_setWidth x (by decide), BitVec.xor_zero]
  rw [hbits x, hlow]

theorem crcByte_eq_tableByte (acc : U32) (b : Byte) : crcByte acc b = tableByte acc b := by
  rw [crcByte, crcEight_eq_lowByte, tableByte, crcTable_getD, BitVec.ushiftRight_xor_distrib, setWidth_byte_shiftRight,
    BitVec.xor_zero]

theorem crc32_eq_crc32Table (bytes : Bytes) : crc32 bytes = crc32Table bytes := by
  have hstep : crcByte = tableByte := funext₂ crcByte_eq_tableByte
  rw [crc32, crc32Table, hstep]

/-- Settles O14: the answer is `crc32` of the operand, whose steps are those of the loop as R152 writes it. -/
theorem crc32ResultInThreeViews : Obligations.Crc32ResultInThreeViews :=
  ⟨decodeWord_eq_ok.mpr rfl, fun s hw =>
    ⟨crc32 s.operands.bytes, sequenceCommand_within hw _, rfl, crc32_eq_crc32Serial _, crc32_eq_crc32Table _⟩⟩

/-! ### Errors in one byte -/

theorem crcByte_acc_injective (b : Byte) : Function.Injective fun acc => crcByte acc b :=
  fun _ _ h => (BitVec.xor_left_inj _).mp (crcEight_injective h)

/-- Two bytes that differ take one accumulator to two. -/
theorem crcByte_byte_injective (acc : U32) : Function.Injective (crcByte acc) := by
  intro x y h
  have hword : x.setWidth 32 = y.setWidth 32 := (BitVec.xor_right_inj _).mp (crcEight_injective h)
  simpa using congrArg (BitVec.setWidth 8) hword

theorem foldl_crcByte_injective (bytes : Bytes) : Function.Injective fun acc => bytes.foldl crcByte acc := by
  induction bytes with
  | nil => exact fun _ _ h => h
  | cons b rest ih => exact ih.comp (crcByte_acc_injective b)

/-- The number of positions where two bit sequences differ. -/
def differences (x y : Bits) : Nat := (List.zipWith (fun a b => a != b) x y).count true

theorem differences_self (x : Bits) : differences x x = 0 := by
  induction x with
  | nil => rfl
  | cons b rest ih => simpa [differences] using ih

theorem eq_of_differences_eq_zero {x y : Bits} (hlen : x.length = y.length) (h : differences x y = 0) : x = y := by
  induction x generalizing y with
  | nil => exact (List.length_eq_zero_iff.mp hlen.symm).symm
  | cons a x ih =>
    cases y with
    | nil => cases hlen
    | cons b y =>
      obtain ⟨htail, hhead⟩ : differences x y = 0 ∧ a = b := by simpa [differences, List.count_cons] using h
      rw [hhead, ih (Nat.succ.inj hlen) htail]

theorem differences_bytesToBits_cons (x y : Byte) (a b : Bytes) :
    differences (bytesToBits (x :: a)) (bytesToBits (y :: b)) =
      differences (bitsMsbFirst x) (bitsMsbFirst y) + differences (bytesToBits a) (bytesToBits b) := by
  rw [bytesToBits_cons, bytesToBits_cons, differences, List.zipWith_append (by simp), List.count_append, differences, differences]

theorem differences_bitsMsbFirst_pos {x y : Byte} (h : x ≠ y) : 0 < differences (bitsMsbFirst x) (bitsMsbFirst y) := by
  refine Nat.pos_of_ne_zero fun hzero => h ?_
  have hbits : bitsMsbFirst x = bitsMsbFirst y := eq_of_differences_eq_zero (by simp) hzero
  rw [← ofBitsMsbFirst_bitsMsbFirst x, hbits, ofBitsMsbFirst_bitsMsbFirst]

/-- From one accumulator, inputs with one bit of difference end in two: up to the byte that holds it they agree, and after it they
take the same injective steps. -/
theorem foldl_crcByte_ne {a b : Bytes} (hlen : a.length = b.length)
    (hone : differences (bytesToBits a) (bytesToBits b) = 1) (acc : U32) : a.foldl crcByte acc ≠ b.foldl crcByte acc := by
  induction a generalizing b acc with
  | nil => simp [differences] at hone
  | cons x a ih =>
    cases b with
    | nil => cases hlen
    | cons y b =>
      have htail : a.length = b.length := Nat.succ.inj hlen
      rw [differences_bytesToBits_cons] at hone
      by_cases hxy : x = y
      · subst hxy
        rw [differences_self, Nat.zero_add] at hone
        exact ih htail hone (crcByte acc x)
      · have hpos := differences_bitsMsbFirst_pos hxy
        have hbits : bytesToBits a = bytesToBits b :=
          eq_of_differences_eq_zero (by simp [bytesToBits_length, htail]) (by omega)
        have hab : a = b := by rw [← bitsToBytes_bytesToBits a, hbits, bitsToBytes_bytesToBits]
        subst hab
        exact fun h => hxy (crcByte_byte_injective acc (foldl_crcByte_injective a h))

/-- Settles O15: the final inversion keeps the accumulators apart. -/
theorem crc32DetectsSingleBitErrors : Obligations.Crc32DetectsSingleBitErrors :=
  fun _ _ hlen hone h => foldl_crcByte_ne hlen hone 0xFFFFFFFF ((BitVec.xor_left_inj _).mp h)

end Sys2Proof.Machine
end

section
/-! PROOFS. The FEC Codec (R165 to R184): every coder works group by group, so that dropping whole groups of its operand drops the
groups they answer; what an encoder or a decoder does is then said of the first group of a sequence. -/

namespace Sys2Proof.Machine

/-! ### Sequences at a place -/

theorem drop_eq_cons_of_getElem? {bits : Bits} {i : Nat} {b : Bool} (h : bits[i]? = some b) :
    bits.drop i = b :: bits.drop (i + 1) := by
  rw [List.drop_eq_getElem?_toList_append, h]
  rfl

theorem drop_eq_nil_of_length {bits : Bits} {n : Nat} (h : bits.length = n) : bits.drop n = [] :=
  List.drop_eq_nil_of_le (Nat.le_of_eq h)

/-- The elements from place `s` on, read off what stands there. -/
theorem getElem?_of_drop_eq {bits rest : Bits} {s : Nat} (h : bits.drop s = rest) (j : Nat) : bits[s + j]? = rest[j]? := by
  rw [← h, List.getElem?_drop]

/-- Counting a value over `n` places from `s` counts it in the slice of those places. -/
theorem countP_range_getElem? (bits : Bits) (s n : Nat) (b : Bool) :
    (List.range n).countP (fun j => decide (bits[s + j]? = some b)) = ((bits.drop s).take n).count b := by
  induction n with
  | zero => rfl
  | succ n ih =>
    rw [List.range_succ, List.countP_append, ih, List.take_add_one, List.count_append, List.getElem?_drop]
    cases hplace : bits[s + n]? with
    | none => simp [hplace]
    | some c => simp [hplace, List.count_singleton]

/-! ### Working by groups (R166) -/

/-- `f` answers `n` bits for each group of `m` and carries no state from one group to the next. -/
def ByGroup (m n : Nat) (f : Bits → Bits) : Prop := ∀ bits : Bits, (f bits).drop n = f (bits.drop m)

theorem ByGroup.drop {m n : Nat} {f : Bits → Bits} (h : ByGroup m n f) (bits : Bits) (k : Nat) :
    (f bits).drop (n * k) = f (bits.drop (m * k)) := by
  induction k generalizing bits with
  | zero => rfl
  | succ k ih => rw [Nat.mul_succ, Nat.mul_succ, Nat.add_comm (n * k), Nat.add_comm (m * k), ← List.drop_drop, h, ih, List.drop_drop]

theorem ByGroup.getElem? {m n : Nat} {f : Bits → Bits} (h : ByGroup m n f) (bits : Bits) (k j : Nat) :
    (f bits)[n * k + j]? = (f (bits.drop (m * k)))[j]? := by
  rw [← List.getElem?_drop, h.drop]

theorem fecEncode12_byGroup : ByGroup 1 2 fecEncode12
  | [] | _ :: _ => rfl

theorem fecEncode13_byGroup : ByGroup 1 3 fecEncode13
  | [] | _ :: _ => rfl

theorem fecEncode23_byGroup : ByGroup 2 3 fecEncode23
  | [] | [_] | _ :: _ :: _ => rfl

theorem fecEncode34_byGroup : ByGroup 3 4 fecEncode34
  | [] | [_] | [_, _] | _ :: _ :: _ :: _ => rfl

theorem fecDecode12_byGroup : ByGroup 2 1 fecDecode12
  | [] | [_] | _ :: _ :: _ => rfl

theorem fecDecode13_byGroup : ByGroup 3 1 fecDecode13
  | [] | [_] | [_, _] | _ :: _ :: _ :: _ => rfl

/-! ### The encoders at a group -/

theorem fecEncode12_getElem? (bits : Bits) (i : Nat) {j : Nat} (hj : j < 2) : (fecEncode12 bits)[2 * i + j]? = bits[i]? := by
  have hhead (rest : Bits) : (fecEncode12 rest)[j]? = rest[0]? := by
    cases rest with
    | nil => rfl
    | cons b rest => interval_cases j <;> rfl
  rw [fecEncode12_byGroup.getElem?, hhead, List.getElem?_drop, Nat.one_mul, Nat.add_zero]

theorem fecEncode13_getElem? (bits : Bits) (i : Nat) {j : Nat} (hj : j < 3) : (fecEncode13 bits)[3 * i + j]? = bits[i]? := by
  have hhead (rest : Bits) : (fecEncode13 rest)[j]? = rest[0]? := by
    cases rest with
    | nil => rfl
    | cons b rest => interval_cases j <;> rfl
  rw [fecEncode13_byGroup.getElem?, hhead, List.getElem?_drop, Nat.one_mul, Nat.add_zero]

theorem fecEncode23_drop_pair {bits : Bits} {k : Nat} {b0 b1 : Bool} (h0 : bits[2 * k]? = some b0)
    (h1 : bits[2 * k + 1]? = some b1) :
    (fecEncode23 bits).drop (3 * k) = b0 :: b1 :: (b0 ^^ b1) :: fecEncode23 (bits.drop (2 * k + 2)) := by
  rw [fecEncode23_byGroup.drop, drop_eq_cons_of_getElem? h0, drop_eq_cons_of_getElem? h1, fecEncode23]

theorem fecEncode23_drop_last {bits : Bits} {k : Nat} {b : Bool} (hlen : bits.length = 2 * k + 1) (h : bits[2 * k]? = some b) :
    (fecEncode23 bits).drop (3 * k) = [b, false, b] := by
  rw [fecEncode23_byGroup.drop, drop_eq_cons_of_getElem? h, drop_eq_nil_of_length hlen, fecEncode23]

theorem fecEncode34_drop_triple {bits : Bits} {k : Nat} {b0 b1 b2 : Bool} (h0 : bits[3 * k]? = some b0)
    (h1 : bits[3 * k + 1]? = some b1) (h2 : bits[3 * k + 2]? = some b2) :
    (fecEncode34 bits).drop (4 * k) = b0 :: b1 :: b2 :: (b0 ^^ b1) :: fecEncode34 (bits.drop (3 * k + 3)) := by
  rw [fecEncode34_byGroup.drop, drop_eq_cons_of_getElem? h0, drop_eq_cons_of_getElem? h1, drop_eq_cons_of_getElem? h2, fecEncode34]

theorem fecEncode34_drop_one {bits : Bits} {k : Nat} {b0 : Bool} (hlen : bits.length = 3 * k + 1) (h0 : bits[3 * k]? = some b0) :
    (fecEncode34 bits).drop (4 * k) = [b0, false, false, false] := by
  rw [fecEncode34_byGroup.drop, drop_eq_cons_of_getElem? h0, drop_eq_nil_of_length hlen, fecEncode34]

theorem fecEncode34_drop_two {bits : Bits} {k : Nat} {b0 b1 : Bool} (hlen : bits.length = 3 * k + 2)
    (h0 : bits[3 * k]? = some b0) (h1 : bits[3 * k + 1]? = some b1) :
    (fecEncode34 bits).drop (4 * k) = [b0, b1, false, false] := by
  rw [fecEncode34_byGroup.drop, drop_eq_cons_of_getElem? h0, drop_eq_cons_of_getElem? h1, drop_eq_nil_of_length hlen, fecEncode34]

/-! ### The voting decoders at a group -/

theorem bitValue_eq_toNat (b : Bool) : bitValue b = b.toNat := by cases b <;> rfl

theorem fecDecode12_getElem? {bits : Bits} {k : Nat} {a b : Bool} (ha : bits[2 * k]? = some a) (hb : bits[2 * k + 1]? = some b) :
    (fecDecode12 bits)[k]? = some (a || b) := by
  rw [← Nat.one_mul k, ← Nat.add_zero (1 * k), fecDecode12_byGroup.getElem?, drop_eq_cons_of_getElem? ha,
    drop_eq_cons_of_getElem? hb, fecDecode12, List.getElem?_cons_zero]

theorem fecDecode13_getElem? {bits : Bits} {k : Nat} {a b c : Bool} (ha : bits[3 * k]? = some a) (hb : bits[3 * k + 1]? = some b)
    (hc : bits[3 * k + 2]? = some c) : (fecDecode13 bits)[k]? = some (decide (2 ≤ a.toNat + b.toNat + c.toNat)) := by
  rw [← Nat.one_mul k, ← Nat.add_zero (1 * k), fecDecode13_byGroup.getElem?, drop_eq_cons_of_getElem? ha,
    drop_eq_cons_of_getElem? hb, drop_eq_cons_of_getElem? hc, fecDecode13, List.getElem?_cons_zero]
  simp only [bitValue_eq_toNat]

/-! ### The decoders that discard a parity bit -/

/-- `f` answers the first `n` bits of each group of `n + 1`, and of a partial group what stands of them (R179, R181). -/
structure DiscardsParity (n : Nat) (f : Bits → Bits) : Prop where
  take_group : ∀ bits : Bits, (f bits).take n = bits.take n
  byGroup : ByGroup (n + 1) n f

theorem fecDecode23_discardsParity : DiscardsParity 2 fecDecode23 where
  take_group
    | [] | [_] | [_, _] | _ :: _ :: _ :: _ => rfl
  byGroup
    | [] | [_] | [_, _] | _ :: _ :: _ :: _ => rfl

theorem fecDecode34_discardsParity : DiscardsParity 3 fecDecode34 where
  take_group
    | [] | [_] | [_, _] | [_, _, _] | _ :: _ :: _ :: _ :: _ => rfl
  byGroup
    | [] | [_] | [_, _] | [_, _, _] | _ :: _ :: _ :: _ :: _ => rfl

theorem DiscardsParity.getElem? {n : Nat} {f : Bits → Bits} (h : DiscardsParity n f) (bits : Bits) (k : Nat) {j : Nat} (hj : j < n) :
    (f bits)[n * k + j]? = bits[(n + 1) * k + j]? := by
  rw [h.byGroup.getElem?, ← List.getElem?_take_of_lt hj, h.take_group, List.getElem?_take_of_lt hj, List.getElem?_drop]

/-- Every element of the answer stands at a data position, so the parity positions do not bear on it. -/
theorem DiscardsParity.eq_of_data_eq {n : Nat} {f : Bits → Bits} (h : DiscardsParity n f) (hn : 0 < n) {x y : Bits}
    (hdata : ∀ i, i % (n + 1) ≠ n → x[i]? = y[i]?) : f x = f y := by
  refine List.ext_getElem? fun i => ?_
  have hj : i % n < n := Nat.mod_lt i hn
  have hplace : ((n + 1) * (i / n) + i % n) % (n + 1) = i % n := by
    rw [Nat.mul_add_mod, Nat.mod_eq_of_lt (Nat.lt_succ_of_lt hj)]
  rw [← Nat.div_add_mod i n, h.getElem? x _ hj, h.getElem? y _ hj]
  exact hdata _ (by rw [hplace]; exact hj.ne)

/-! ### The length of a decoding -/

theorem fecDecode12_length : ∀ bits : Bits, (fecDecode12 bits).length = bits.length / 2
  | [] | [_] => by simp [fecDecode12]
  | _ :: _ :: rest => by simp only [fecDecode12, List.length_cons, fecDecode12_length rest]; omega

theorem fecDecode13_length : ∀ bits : Bits, (fecDecode13 bits).length = bits.length / 3
  | [] | [_] | [_, _] => by simp [fecDecode13]
  | _ :: _ :: _ :: rest => by simp only [fecDecode13, List.length_cons, fecDecode13_length rest]; omega

theorem fecDecode23_length : ∀ bits : Bits, (fecDecode23 bits).length = 2 * (bits.length / 3) + min (bits.length % 3) 2
  | [] | [_] | [_, _] => by simp [fecDecode23]
  | _ :: _ :: _ :: rest => by simp only [fecDecode23, List.length_cons, fecDecode23_length rest]; omega

theorem fecDecode34_length : ∀ bits : Bits, (fecDecode34 bits).length = 3 * (bits.length / 4) + bits.length % 4
  | [] | [_] | [_, _] | [_, _, _] => by simp [fecDecode34]
  | _ :: _ :: _ :: _ :: rest => by simp only [fecDecode34, List.length_cons, fecDecode34_length rest]; omega

/-- The length of a decoding is a function of the length of the input (R182). -/
theorem fecDecode_length (rate : Rate) (bits : Bits) : (fecDecode rate bits).length = decOut bits.length rate := by
  cases rate with
  | r12 => exact fecDecode12_length bits
  | r13 => exact fecDecode13_length bits
  | r23 => exact fecDecode23_length bits
  | r34 => exact fecDecode34_length bits

/-! ### The operations -/

/-- Settles O16: the answer is `fecEncode12` of the operand. -/
theorem fecEncode12Result : Obligations.FecEncode12Result :=
  ⟨decodeWord_eq_ok.mpr rfl, fun s hw =>
    ⟨fecEncode12 s.operands.bits, sequenceCommand_within hw _, fecEncode_length .r12 _, fun i =>
      ⟨fecEncode12_getElem? _ i (j := 0) (by decide), fecEncode12_getElem? _ i (by decide)⟩⟩⟩

/-- Settles O17: the answer is `fecEncode13` of the operand. -/
theorem fecEncode13Result : Obligations.FecEncode13Result :=
  ⟨decodeWord_eq_ok.mpr rfl, fun s hw =>
    ⟨fecEncode13 s.operands.bits, sequenceCommand_within hw _, fecEncode_length .r13 _, fun i =>
      ⟨fecEncode13_getElem? _ i (j := 0) (by decide), fecEncode13_getElem? _ i (by decide), fecEncode13_getElem? _ i (by decide)⟩⟩⟩

/-- Settles O18: the answer is `fecEncode23` of the operand, read at a full pair and at an odd last bit. -/
theorem fecEncode23Result : Obligations.FecEncode23Result := by
  refine ⟨decodeWord_eq_ok.mpr rfl, fun s hw =>
    ⟨fecEncode23 s.operands.bits, sequenceCommand_within hw _, fecEncode_length .r23 _, fun k b0 b1 h0 h1 => ?_,
      fun k b hlen h => ?_⟩⟩
  · have hgroup := getElem?_of_drop_eq (fecEncode23_drop_pair h0 h1)
    exact ⟨hgroup 0, hgroup 1, hgroup 2⟩
  · have hgroup := getElem?_of_drop_eq (fecEncode23_drop_last hlen h)
    exact ⟨hgroup 0, hgroup 1, hgroup 2⟩

/-- Settles O19: the answer is `fecEncode34` of the operand, read at a full triple and at a tail of one or of two bits. -/
theorem fecEncode34Result : Obligations.FecEncode34Result := by
  refine ⟨decodeWord_eq_ok.mpr rfl, fun s hw =>
    ⟨fecEncode34 s.operands.bits, sequenceCommand_within hw _, fecEncode_length .r34 _, fun k b0 b1 b2 h0 h1 h2 => ?_,
      fun _ _ => fecEncode34_drop_one, fun _ _ _ => fecEncode34_drop_two⟩⟩
  have hgroup := getElem?_of_drop_eq (fecEncode34_drop_triple h0 h1 h2)
  exact ⟨hgroup 0, hgroup 1, hgroup 2, hgroup 3⟩

/-- Settles O20: the answer is `fecDecode12` of the operand. -/
theorem fecDecode12Result : Obligations.FecDecode12Result :=
  ⟨decodeWord_eq_ok.mpr rfl, fun s hw =>
    ⟨fecDecode12 s.operands.bits, sequenceCommand_within hw _, fecDecode_length .r12 _, fun _ _ _ => fecDecode12_getElem?⟩⟩

/-- Settles O21: the answer is `fecDecode13` of the operand. -/
theorem fecDecode13Result : Obligations.FecDecode13Result :=
  ⟨decodeWord_eq_ok.mpr rfl, fun s hw =>
    ⟨fecDecode13 s.operands.bits, sequenceCommand_within hw _, fecDecode_length .r13 _, fun _ _ _ _ => fecDecode13_getElem?⟩⟩

/-- Settles O22: the answer is `fecDecode23` of the operand. -/
theorem fecDecode23Result : Obligations.FecDecode23Result :=
  ⟨decodeWord_eq_ok.mpr rfl, fun s hw =>
    ⟨fecDecode23 s.operands.bits, sequenceCommand_within hw _, fecDecode_length .r23 _, fun k _ hj _ =>
      fecDecode23_discardsParity.getElem? _ k hj⟩⟩

/-- Settles O23: the answer is `fecDecode34` of the operand. -/
theorem fecDecode34Result : Obligations.FecDecode34Result :=
  ⟨decodeWord_eq_ok.mpr rfl, fun s hw =>
    ⟨fecDecode34 s.operands.bits, sequenceCommand_within hw _, fecDecode_length .r34 _, fun k _ hj _ =>
      fecDecode34_discardsParity.getElem? _ k hj⟩⟩

end Sys2Proof.Machine
end

section
/-! PROOFS. The laws of the FEC Codec: lengths and expansion (R167, R208), concatenation at a group boundary (R175), the round trip
(R183) and the channel errors a decoder absorbs (R184). -/

namespace Sys2Proof.Machine

/-! ### Lengths and expansion -/

/-- The exact expansion of the data bits never exceeds the encoding, which expands whole groups. -/
theorem encLen_le_encOut (rate : Rate) (n : Nat) : encLen n rate ≤ encOut n rate := by
  cases rate <;> simp only [encLen, expansionNum, expansionDen, encOut] <;> omega

theorem encLen_bytes (len : Nat) : encLen (8 * len) .r12 = 16 * len ∧ encLen (8 * len) .r13 = 24 * len ∧
    encLen (8 * len) .r23 = 12 * len ∧ encLen (8 * len) .r34 = (32 * len + 2) / 3 := by
  simp only [encLen, expansionNum, expansionDen]
  omega

/-- Where the data bits are a whole number of groups, the encoding is no longer than their expansion. -/
theorem encLen_eq_encOut {rate : Rate} {n : Nat} (h : n % expansionDen rate = 0) : encLen n rate = encOut n rate := by
  cases rate <;> simp only [encLen, expansionNum, expansionDen, encOut] at h ⊢ <;> omega

/-- Settles O24: a whole number of groups is any length at rates 1/2 and 1/3, whose groups are single bits. -/
theorem encodedLengthAndExpansion : Obligations.EncodedLengthAndExpansion :=
  ⟨fecEncode_length, encLen_le_encOut, encLen_bytes, fun n => ⟨encLen_eq_encOut n.mod_one, encLen_eq_encOut n.mod_one⟩,
    fun _ => encLen_eq_encOut (rate := .r23), fun _ => encLen_eq_encOut (rate := .r34)⟩

/-! ### Concatenation at a group boundary -/

theorem pair_length_mod (b0 b1 : Bool) (rest : Bits) : (b0 :: b1 :: rest).length % 2 = rest.length % 2 :=
  Nat.add_mod_right rest.length 2

theorem triple_length_mod (b0 b1 b2 : Bool) (rest : Bits) : (b0 :: b1 :: b2 :: rest).length % 3 = rest.length % 3 :=
  Nat.add_mod_right rest.length 3

theorem fecEncode12_append (a b : Bits) : fecEncode12 (a ++ b) = fecEncode12 a ++ fecEncode12 b := by
  induction a with
  | nil => rfl
  | cons x a ih => simp [fecEncode12, ih]

theorem fecEncode13_append (a b : Bits) : fecEncode13 (a ++ b) = fecEncode13 a ++ fecEncode13 b := by
  induction a with
  | nil => rfl
  | cons x a ih => simp [fecEncode13, ih]

theorem fecEncode23_append {a : Bits} (h : a.length % 2 = 0) (b : Bits) :
    fecEncode23 (a ++ b) = fecEncode23 a ++ fecEncode23 b := by
  induction a using fecEncode23.induct with
  | case1 x y a ih => simp [fecEncode23, ih ((pair_length_mod x y a).symm.trans h)]
  | case2 x => cases h
  | case3 => rfl

theorem fecEncode34_append {a : Bits} (h : a.length % 3 = 0) (b : Bits) :
    fecEncode34 (a ++ b) = fecEncode34 a ++ fecEncode34 b := by
  induction a using fecEncode34.induct with
  | case1 x y z a ih => simp [fecEncode34, ih ((triple_length_mod x y z a).symm.trans h)]
  | case2 x y => cases h
  | case3 x => cases h
  | case4 => rfl

/-- Settles O27, by induction on the groups of the first part; a partial group there is excluded by its length. -/
theorem fecEncodesByGroup : Obligations.FecEncodesByGroup :=
  ⟨fecEncode12_append, fecEncode13_append, fun _ b h => fecEncode23_append h b, fun _ b h => fecEncode34_append h b⟩

/-! ### The round trip -/

theorem fecDecode12_fecEncode12 (bits : Bits) : fecDecode12 (fecEncode12 bits) = bits := by
  induction bits with
  | nil => rfl
  | cons b rest ih => simp [fecEncode12, fecDecode12, ih]

theorem fecDecode13_fecEncode13 (bits : Bits) : fecDecode13 (fecEncode13 bits) = bits := by
  induction bits with
  | nil => rfl
  | cons b rest ih => cases b <;> simp [fecEncode13, fecDecode13, bitValue, ih]

theorem fecDecode23_fecEncode23 (bits : Bits) :
    fecDecode23 (fecEncode23 bits) = bits ++ List.replicate (bits.length % 2) false := by
  induction bits using fecEncode23.induct with
  | case1 b0 b1 rest ih => simp only [fecEncode23, fecDecode23, ih, pair_length_mod, List.cons_append]
  | case2 b => rfl
  | case3 => rfl

theorem fecDecode34_fecEncode34 (bits : Bits) :
    fecDecode34 (fecEncode34 bits) = bits ++ List.replicate ((3 - bits.length % 3) % 3) false := by
  induction bits using fecEncode34.induct with
  | case1 b0 b1 b2 rest ih => simp only [fecEncode34, fecDecode34, ih, triple_length_mod, List.cons_append]
  | case2 b0 b1 => rfl
  | case3 b0 => rfl
  | case4 => rfl

theorem fecDecode_fecEncode_take (rate : Rate) (bits : Bits) : (fecDecode rate (fecEncode rate bits)).take bits.length = bits := by
  cases rate with
  | r12 => exact (congrArg _ (fecDecode12_fecEncode12 bits)).trans List.take_length
  | r13 => exact (congrArg _ (fecDecode13_fecEncode13 bits)).trans List.take_length
  | r23 => exact (congrArg _ (fecDecode23_fecEncode23 bits)).trans List.take_left
  | r34 => exact (congrArg _ (fecDecode34_fecEncode34 bits)).trans List.take_left

/-- Settles O25, by induction on the groups: only the tail group is padded. -/
theorem fecRoundTripPrefix : Obligations.FecRoundTripPrefix :=
  ⟨fecDecode12_fecEncode12, fecDecode13_fecEncode13, fecDecode23_fecEncode23, fecDecode34_fecEncode34, fecDecode_fecEncode_take⟩

/-! ### The channel errors a decoder absorbs -/

/-- The truth table of the OR: a 1 needs one right copy, a 0 needs both. -/
theorem or_eq_iff_count (x y b : Bool) : (x || y) = b ↔ (if b then 1 else 2) ≤ [x, y].count b := by
  decide +revert

/-- The truth table of the majority: a bit needs two right copies. -/
theorem majority_eq_iff_count (x y z b : Bool) : decide (2 ≤ x.toNat + y.toNat + z.toNat) = b ↔ 2 ≤ [x, y, z].count b := by
  decide +revert

theorem fecDecode12_getElem?_eq_some_iff {got : Bits} {i : Nat} (hi : 2 * i + 1 < got.length) (b : Bool) :
    (fecDecode12 got)[i]? = some b ↔
      (if b then 1 else 2) ≤ (List.range 2).countP fun j => decide (got[2 * i + j]? = some b) := by
  have hx := List.getElem?_eq_getElem (Nat.lt_of_succ_lt hi)
  have hy := List.getElem?_eq_getElem hi
  rw [fecDecode12_getElem? hx hy, Option.some_inj, or_eq_iff_count, countP_range_getElem?, drop_eq_cons_of_getElem? hx,
    drop_eq_cons_of_getElem? hy]
  rfl

theorem fecDecode13_getElem?_eq_some_iff {got : Bits} {i : Nat} (hi : 3 * i + 2 < got.length) (b : Bool) :
    (fecDecode13 got)[i]? = some b ↔ 2 ≤ (List.range 3).countP fun j => decide (got[3 * i + j]? = some b) := by
  have hx := List.getElem?_eq_getElem (show 3 * i < got.length by omega)
  have hy := List.getElem?_eq_getElem (show 3 * i + 1 < got.length by omega)
  have hz := List.getElem?_eq_getElem hi
  rw [fecDecode13_getElem? hx hy hz, Option.some_inj, majority_eq_iff_count, countP_range_getElem?, drop_eq_cons_of_getElem? hx,
    drop_eq_cons_of_getElem? hy, drop_eq_cons_of_getElem? hz]
  rfl

/-- Settles O26: a voting decoder sees the copies of a bit and nothing else, and the others do not see the parity positions. -/
theorem fecErrorAbsorption : Obligations.FecErrorAbsorption := by
  refine ⟨fun sent got i b hlen hsent => ?_, fun sent got i b hlen hsent => ?_,
    fun _ _ _ => fecDecode23_discardsParity.eq_of_data_eq (by decide),
    fun _ _ _ => fecDecode34_discardsParity.eq_of_data_eq (by decide)⟩
  · obtain ⟨hi, -⟩ := List.getElem?_eq_some_iff.mp hsent
    exact fecDecode12_getElem?_eq_some_iff (by omega) b
  · obtain ⟨hi, -⟩ := List.getElem?_eq_some_iff.mp hsent
    exact fecDecode13_getElem?_eq_some_iff (by omega) b

end Sys2Proof.Machine
end

section
/-! PROOFS. What `decodeFrame` reads (R205 to R217): LENGTH, CRC32 and the data positions of the encoded payload. It accepts exactly when
these agree, and nothing else bears on it. -/

namespace Sys2Proof.Machine

/-! ### Reads of a sequence -/

theorem memRead_length {bits : Bits} {i n : Nat} (h : i + n ≤ bits.length) : (memRead bits i n).length = n := by
  rw [memRead, List.length_take, List.length_drop]
  omega

theorem memRead_getElem? (bits : Bits) (i : Nat) {n j : Nat} (h : j < n) : (memRead bits i n)[j]? = bits[i + j]? := by
  rw [memRead, List.getElem?_take_of_lt h, List.getElem?_drop]

theorem take_congr {x y : Bits} {n : Nat} (h : ∀ j < n, x[j]? = y[j]?) : x.take n = y.take n := by
  refine List.ext_getElem? fun j => ?_
  rw [List.getElem?_take, List.getElem?_take]
  by_cases hj : j < n
  · rw [if_pos hj, if_pos hj, h j hj]
  · rw [if_neg hj, if_neg hj]

theorem memRead_congr {x y : Bits} {i k n : Nat} (h : ∀ j < n, x[i + j]? = y[k + j]?) : memRead x i n = memRead y k n :=
  take_congr fun j hj => by rw [List.getElem?_drop, List.getElem?_drop, h j hj]

/-! ### What a decoder reads (R210, R217) -/

theorem fecDecode12_take : ∀ (bits : Bits) (len : Nat), (fecDecode12 bits).take len = fecDecode12 (bits.take (2 * len))
  | _, 0 => rfl
  | [], _ + 1 | [_], _ + 1 => rfl
  | _ :: _ :: rest, len + 1 => congrArg _ (fecDecode12_take rest len)

theorem fecDecode13_take : ∀ (bits : Bits) (len : Nat), (fecDecode13 bits).take len = fecDecode13 (bits.take (3 * len))
  | _, 0 => rfl
  | [], _ + 1 | [_], _ + 1 | [_, _], _ + 1 => rfl
  | _ :: _ :: _ :: rest, len + 1 => congrArg _ (fecDecode13_take rest len)

/-- Element `i` of the answer stands at place `i % n` of group `i / n`. -/
theorem DiscardsParity.take_eq_of_data_eq {n : Nat} {f : Bits → Bits} (h : DiscardsParity n f) (hn : 0 < n) {x y : Bits} {len : Nat}
    (hdata : ∀ i < len, x[(n + 1) * (i / n) + i % n]? = y[(n + 1) * (i / n) + i % n]?) : (f x).take len = (f y).take len := by
  refine take_congr fun i hi => ?_
  have hj : i % n < n := Nat.mod_lt i hn
  rw [← Nat.div_add_mod i n, h.getElem? x _ hj, h.getElem? y _ hj]
  exact hdata i hi

/-- The first `len` decoded bits come from the first `encLen` bits, and there neither from a parity position nor from the padding
position at the end of a tail group at rate 3/4. -/
theorem fecDecode_take_congr {rate : Rate} {len : Nat} {x y : Bits}
    (h : ∀ i < encLen len rate, (rate = .r23 → i % 3 ≠ 2) → (rate = .r34 → i % 4 ≠ 3) →
      (rate = .r34 → len % 3 ≠ 0 → i + 1 ≠ encLen len rate) → x[i]? = y[i]?) :
    (fecDecode rate x).take len = (fecDecode rate y).take len := by
  cases rate with
  | r12 =>
    have hslice : x.take (2 * len) = y.take (2 * len) := take_congr fun i hi =>
      h i (by simp only [encLen, expansionNum, expansionDen]; omega) nofun nofun nofun
    simp only [fecDecode, fecDecode12_take, hslice]
  | r13 =>
    have hslice : x.take (3 * len) = y.take (3 * len) := take_congr fun i hi =>
      h i (by simp only [encLen, expansionNum, expansionDen]; omega) nofun nofun nofun
    simp only [fecDecode, fecDecode13_take, hslice]
  | r23 =>
    refine fecDecode23_discardsParity.take_eq_of_data_eq (by decide) fun i hi => h _ ?_ (fun _ => ?_) nofun nofun
    · simp only [encLen, expansionNum, expansionDen]; omega
    · omega
  | r34 =>
    refine fecDecode34_discardsParity.take_eq_of_data_eq (by decide) fun i hi => h _ ?_ nofun (fun _ => ?_) (fun _ htail => ?_)
    · simp only [encLen, expansionNum, expansionDen]; omega
    · omega
    · simp only [encLen, expansionNum, expansionDen]; omega

/-- No rate shortens what it encodes. -/
theorem le_encLen (len : Nat) (rate : Rate) : len ≤ encLen len rate := by
  cases rate <;> simp only [encLen, expansionNum, expansionDen] <;> omega

/-- The check of R211 never fails: `encLen` bits decode to enough bits. -/
theorem le_decOut_encLen (len : Nat) (rate : Rate) : len ≤ decOut (encLen len rate) rate := by
  cases rate <;> simp only [encLen, expansionNum, expansionDen, decOut] <;> omega

/-! ### What `decodeFrame` reads -/

/-- LENGTH (R207). -/
def lengthField (bits : Bits) (start : Nat) : Nat := (bitsToU32 (memRead bits start 32)).toNat

/-- CRC32 (R208). -/
def crcField (bits : Bits) (start : Nat) : U32 := bitsToU32 (memRead bits (start + 32) 32)

/-- The bits that the `encLen` slice of a payload of `len` bytes decodes to, cut to that payload (R210, R212). -/
def payloadBits (bits : Bits) (start len : Nat) (rate : Rate) : Bits :=
  (fecDecode rate (memRead bits (start + 64) (encLen (8 * len) rate))).take (8 * len)

theorem payloadBits_length {bits : Bits} {start len : Nat} {rate : Rate}
    (h : start + 64 + encLen (8 * len) rate ≤ bits.length) : (payloadBits bits start len rate).length = 8 * len := by
  rw [payloadBits, List.length_take, fecDecode_length, memRead_length h]
  exact Nat.min_eq_left (le_decOut_encLen _ _)

/-- The check of R213 never fails. -/
theorem payload_length {bits : Bits} {start len : Nat} {rate : Rate}
    (h : start + 64 + encLen (8 * len) rate ≤ bits.length) : (bitsToBytes (payloadBits bits start len rate)).length = len := by
  rw [bitsToBytes_length, payloadBits_length h]
  omega

theorem decodeFrame_lenRange {bits : Bits} {start : Nat} (h : start + 64 ≤ bits.length)
    (hlen : lengthField bits start = 0 ∨ 50000000 < lengthField bits start) (rate : Rate) :
    decodeFrame bits start rate = .error .lenRange := by
  unfold decodeFrame
  rw [if_neg (Nat.not_lt.mpr h)]
  exact if_pos hlen

section
variable {bits : Bits} {start : Nat} {rate : Rate} (hpos : 0 < lengthField bits start)
  (hmax : lengthField bits start ≤ 50000000)
include hpos hmax

theorem lengthField_not_out_of_range : ¬ (lengthField bits start = 0 ∨ maxLen < lengthField bits start) := by
  simp only [maxLen]
  omega

theorem decodeFrame_shortPayload (h : start + 64 ≤ bits.length)
    (hshort : bits.length < start + 64 + encLen (8 * lengthField bits start) rate) :
    decodeFrame bits start rate = .error .shortPayload := by
  unfold decodeFrame
  rw [if_neg (Nat.not_lt.mpr h)]
  exact (if_neg (lengthField_not_out_of_range hpos hmax)).trans (if_pos hshort)

/-- With LENGTH in range and the whole slice there, only the CRC decides (R211 to R215). -/
theorem decodeFrame_of_slice (h : start + 64 + encLen (8 * lengthField bits start) rate ≤ bits.length) :
    decodeFrame bits start rate =
      if crc32 (bitsToBytes (payloadBits bits start (lengthField bits start) rate)) ≠ crcField bits start then .error .crcMismatch
      else .ok (bitsToBytes (payloadBits bits start (lengthField bits start) rate)) := by
  have hheader : start + 64 ≤ bits.length := by omega
  have hdecoded : 8 * lengthField bits start ≤
      (fecDecode rate (memRead bits (start + 64) (encLen (8 * lengthField bits start) rate))).length := by
    rw [fecDecode_length, memRead_length h]
    exact le_decOut_encLen _ _
  unfold decodeFrame
  rw [if_neg (Nat.not_lt.mpr hheader)]
  exact (if_neg (lengthField_not_out_of_range hpos hmax)).trans <| (if_neg (Nat.not_lt.mpr h)).trans <|
    (if_neg (Nat.not_lt.mpr hdecoded)).trans <| if_neg (not_not.mpr (payload_length h))

end

/-- What an accepted frame is (R217): nothing but these reads bears on it. -/
structure Accepts (bits : Bits) (start : Nat) (rate : Rate) (payload : Bytes) : Prop where
  /-- R206, R209 -/
  whole : start + 64 + encLen (8 * payload.length) rate ≤ bits.length
  /-- R207 -/
  length : lengthField bits start = payload.length
  nonempty : 0 < payload.length
  bounded : payload.length ≤ 50000000
  /-- R214 -/
  crc : crcField bits start = crc32 payload
  /-- R215 -/
  decoded : bitsToBytes (payloadBits bits start payload.length rate) = payload

theorem decodeFrame_eq_ok_iff {bits : Bits} {start : Nat} {rate : Rate} {payload : Bytes} :
    decodeFrame bits start rate = .ok payload ↔ Accepts bits start rate payload := by
  constructor
  · intro h
    rcases Nat.lt_or_ge bits.length (start + 64) with hshort | hheader
    · rw [decodeFrame_shortHeader hshort] at h
      cases h
    by_cases hrange : lengthField bits start = 0 ∨ 50000000 < lengthField bits start
    · rw [decodeFrame_lenRange hheader hrange] at h
      cases h
    have hpos : 0 < lengthField bits start := by omega
    have hmax : lengthField bits start ≤ 50000000 := by omega
    rcases Nat.lt_or_ge bits.length (start + 64 + encLen (8 * lengthField bits start) rate) with hshort | hwhole
    · rw [decodeFrame_shortPayload hpos hmax hheader hshort] at h
      cases h
    rw [decodeFrame_of_slice hpos hmax hwhole] at h
    split at h <;> rename_i hcrc <;> cases h
    have hlen := payload_length hwhole
    exact ⟨hlen.symm ▸ hwhole, hlen.symm, hlen.symm ▸ hpos, hlen.symm ▸ hmax, (not_not.mp hcrc).symm, by rw [hlen]⟩
  · rintro ⟨hwhole, hlen, hpos, hmax, hcrc, hdecoded⟩
    rw [← hlen] at hwhole hpos hmax
    rw [decodeFrame_of_slice hpos hmax hwhole, hlen, hdecoded, hcrc, if_neg (not_not.mpr rfl)]

/-! ### The bits that are not read -/

/-- Settles O33: each field of `Accepts` carries over, the header bit by bit and the payload by what the decoder reads of the slice. -/
theorem unreadBitsHaveNoEffect : Obligations.UnreadBitsHaveNoEffect := by
  intro r x y start payload hlen hx hagree
  have hacc := decodeFrame_eq_ok_iff.mp hx
  have hpos := hacc.nonempty
  have henc := le_encLen (8 * payload.length) r
  have hheader : ∀ j < 64, x[start + j]? = y[start + j]? := fun j hj =>
    hagree (start + j) (by omega) (by omega) (by omega) (by omega) (by omega)
  have hlength : lengthField x start = lengthField y start :=
    congrArg (fun b => (bitsToU32 b).toNat) (memRead_congr fun j hj => hheader j (by omega))
  have hcrc : crcField x start = crcField y start :=
    congrArg bitsToU32 (memRead_congr fun j hj => by simpa only [Nat.add_assoc] using hheader (32 + j) (by omega))
  have hpayload : payloadBits x start payload.length r = payloadBits y start payload.length r := by
    refine fecDecode_take_congr fun i hi h23 h34 htail => ?_
    rw [memRead_getElem? _ _ hi, memRead_getElem? _ _ hi]
    have hplace : start + 64 + i - (start + 64) = i := Nat.add_sub_cancel_left ..
    refine hagree _ (by omega) (by omega) (fun hr _ => ?_) (fun hr _ => ?_) (fun hr hmod => ?_)
    · rw [hplace]; exact h23 hr
    · rw [hplace]; exact h34 hr
    · have := htail hr (by omega)
      omega
  exact decodeFrame_eq_ok_iff.mpr
    { hacc with
      whole := hlen ▸ hacc.whole
      length := hlength ▸ hacc.length
      crc := hcrc ▸ hacc.crc
      decoded := hpayload ▸ hacc.decoded }

/-! ### The operation -/

/-- Settles O30: the answer is that of `decodeFrame`, clause by clause. -/
theorem decodeFrameResult : Obligations.DecodeFrameResult := by
  intro r s hw
  refine ⟨decodeWord_eq_ok.mpr (by cases r <;> rfl),
    decodeFrameResponse (decodeFrame s.operands.bits s.operands.start r), sequenceCommand_within hw _, ?_⟩
  refine ⟨fun h => ?_, fun h hlen => ?_, fun h hpos hmax hshort => ?_, fun h hpos hmax hcrc => ?_, fun h hpos hmax hcrc => ?_⟩
  · rw [decodeFrame_shortHeader h]; rfl
  · rw [decodeFrame_lenRange h hlen]; rfl
  · rw [decodeFrame_shortPayload hpos hmax h hshort]; rfl
  · rw [decodeFrame_of_slice hpos hmax h]
    exact congrArg decodeFrameResponse (if_pos hcrc)
  · rw [decodeFrame_of_slice hpos hmax h]
    exact ⟨congrArg decodeFrameResponse (if_neg (not_not.mpr hcrc)), payload_length h⟩

end Sys2Proof.Machine
end

section
/-! PROOFS. The frames that `encodeFrame` builds (R201 to R203): where their fields stand, and that a bit sequence which carries the
header and the `encLen` slice of a frame decodes to its payload (R209, R218). -/

namespace Sys2Proof.Machine

/-! ### The fields of a frame (R203) -/

theorem preamble_length : preamble.length = 64 := rfl

theorem u32ToBits_length (x : U32) : (u32ToBits x).length = 32 := bitsMsbFirst_length x

theorem encodeFrame_take_preamble (payload : Bytes) (rate : Rate) : (encodeFrame payload rate).take 64 = preamble := by
  rw [encodeFrame, List.append_assoc, List.append_assoc, List.take_left' preamble_length]

theorem memRead_encodeFrame_length (payload : Bytes) (rate : Rate) :
    memRead (encodeFrame payload rate) 64 32 = u32ToBits (BitVec.ofNat 32 payload.length) := by
  rw [encodeFrame, List.append_assoc, List.append_assoc, memRead, List.drop_left' preamble_length,
    List.take_left' (u32ToBits_length _)]

theorem memRead_encodeFrame_crc (payload : Bytes) (rate : Rate) :
    memRead (encodeFrame payload rate) 96 32 = u32ToBits (crc32 payload) := by
  have hlen : (preamble ++ u32ToBits (BitVec.ofNat 32 payload.length)).length = 96 := by
    rw [List.length_append, preamble_length, u32ToBits_length]
  rw [encodeFrame, List.append_assoc, memRead, List.drop_left' hlen, List.take_left' (u32ToBits_length _)]

theorem encodeFrame_drop_header (payload : Bytes) (rate : Rate) :
    (encodeFrame payload rate).drop 128 = fecEncode rate (bytesToBits payload) :=
  List.drop_left' (by simp only [List.length_append, preamble_length, u32ToBits_length])

theorem bitsToU32_u32ToBits (x : U32) : bitsToU32 (u32ToBits x) = x := ofBitsMsbFirst_bitsMsbFirst x

theorem lengthField_encodeFrame {payload : Bytes} (h : payload.length ≤ 2 ^ 32 - 1) (rate : Rate) :
    lengthField (encodeFrame payload rate) 64 = payload.length := by
  rw [lengthField, memRead_encodeFrame_length, bitsToU32_u32ToBits, BitVec.toNat_ofNat]
  exact Nat.mod_eq_of_lt (by omega)

theorem crcField_encodeFrame (payload : Bytes) (rate : Rate) : crcField (encodeFrame payload rate) 64 = crc32 payload := by
  rw [crcField, memRead_encodeFrame_crc, bitsToU32_u32ToBits]

/-- Settles O29: the fields of the frame are read back from it. -/
theorem encodeFrameResult : Obligations.EncodeFrameResult := by
  refine fun r s => ⟨decodeWord_eq_ok.mpr (by cases r <;> rfl), fun hlen => ?_, fun hlen hw => ?_⟩
  · exact exec_outside_domain rfl fun ⟨h, _⟩ => absurd ((lengthAllowed_encframe _ r).mp h) (Nat.not_le.mpr hlen)
  · exact ⟨encodeFrame s.operands.bytes r, (if_pos hlen).trans (sequenceCommand_within hw _), encodeFrame_length _ r,
      encodeFrame_take_preamble _ r, lengthField_encodeFrame hlen r, crcField_encodeFrame _ r, encodeFrame_drop_header _ r⟩

/-! ### Frames in a bit sequence -/

/-- The `n` bits from `start` on are the first `n` bits of the frame that follow its preamble. -/
structure CarriesFrame (bits : Bits) (start : Nat) (payload : Bytes) (rate : Rate) (n : Nat) : Prop where
  fits : start + n ≤ bits.length
  agrees : ∀ j < n, bits[start + j]? = (encodeFrame payload rate)[64 + j]?

namespace CarriesFrame

variable {bits : Bits} {start n : Nat} {payload : Bytes} {rate : Rate}

theorem memRead_eq (h : CarriesFrame bits start payload rate n) {i m : Nat} (hm : i + m ≤ n) :
    memRead bits (start + i) m = memRead (encodeFrame payload rate) (64 + i) m :=
  memRead_congr fun j hj => by rw [Nat.add_assoc, Nat.add_assoc]; exact h.agrees _ (by omega)

theorem lengthField_eq (h : CarriesFrame bits start payload rate n) (hn : 64 ≤ n) (hlen : payload.length ≤ 2 ^ 32 - 1) :
    lengthField bits start = payload.length := by
  rw [← lengthField_encodeFrame hlen rate, lengthField, lengthField, ← h.memRead_eq (i := 0) (by omega), Nat.add_zero]

theorem crcField_eq (h : CarriesFrame bits start payload rate n) (hn : 64 ≤ n) : crcField bits start = crc32 payload := by
  rw [← crcField_encodeFrame payload rate, crcField, crcField, h.memRead_eq (i := 32) (by omega)]

/-- The padding bits of the tail group that `encLen` leaves out are not needed for the round trip (R183, R209). -/
theorem payloadBits_eq (h : CarriesFrame bits start payload rate n) (hn : 64 + encLen (8 * payload.length) rate ≤ n) :
    payloadBits bits start payload.length rate = bytesToBits payload :=
  calc payloadBits bits start payload.length rate
    _ = (fecDecode rate (memRead (encodeFrame payload rate) 128 (encLen (8 * payload.length) rate))).take (8 * payload.length) := by
      rw [payloadBits, h.memRead_eq hn]
    _ = (fecDecode rate ((encodeFrame payload rate).drop 128)).take (8 * payload.length) :=
      fecDecode_take_congr fun i hi _ _ _ => by rw [memRead_getElem? _ _ hi, List.getElem?_drop]
    _ = (fecDecode rate (fecEncode rate (bytesToBits payload))).take (bytesToBits payload).length := by
      rw [encodeFrame_drop_header, bytesToBits_length]
    _ = bytesToBits payload := fecDecode_fecEncode_take rate _

theorem decodeFrame_eq_ok (h : CarriesFrame bits start payload rate n) (hn : 64 + encLen (8 * payload.length) rate ≤ n)
    (hpos : 1 ≤ payload.length) (hmax : payload.length ≤ 50000000) : decodeFrame bits start rate = .ok payload :=
  decodeFrame_eq_ok_iff.mpr
    { whole := by have := h.fits; omega
      length := h.lengthField_eq (by omega) (by omega)
      nonempty := hpos
      bounded := hmax
      crc := h.crcField_eq (by omega)
      decoded := by rw [h.payloadBits_eq hn, bitsToBytes_bytesToBits] }

end CarriesFrame

theorem carriesFrame_append (x y : Bits) (payload : Bytes) (rate : Rate) :
    CarriesFrame (x ++ encodeFrame payload rate ++ y) (x.length + 64) payload rate (64 + encOut (8 * payload.length) rate) where
  fits := by simp only [List.length_append, encodeFrame_length]; omega
  agrees j hj := by
    rw [List.append_assoc, Nat.add_assoc, List.getElem?_append_right (Nat.le_add_right ..), Nat.add_sub_cancel_left,
      List.getElem?_append_left (by rw [encodeFrame_length]; omega)]

theorem carriesFrame_take {payload : Bytes} {rate : Rate} {n m : Nat} (hm : 64 + m ≤ n)
    (hlen : m ≤ 64 + encOut (8 * payload.length) rate) :
    CarriesFrame ((encodeFrame payload rate).take n) 64 payload rate m where
  fits := by rw [List.length_take, encodeFrame_length]; omega
  agrees j hj := List.getElem?_take_of_lt (by omega)

/-- Settles O31: a frame is carried whole, and `encLen` is at most what the encoder gives; off the decode domain LENGTH, still exact,
is out of range. -/
theorem frameRoundTrip : Obligations.FrameRoundTrip := by
  refine ⟨fun r payload x y hpos hmax => ?_, fun r payload x y hlen hmax => ?_⟩
  · exact (carriesFrame_append x y payload r).decodeFrame_eq_ok (Nat.add_le_add_left (encLen_le_encOut r _) 64) hpos hmax
  · have hcarries := carriesFrame_append x y payload r
    have hfits := hcarries.fits
    refine decodeFrame_lenRange (by omega) ?_ r
    rwa [hcarries.lengthField_eq (by omega) hmax]

/-- Settles O32: the cut frame still carries its header, and its slice exactly when `encLen` bits of it are left. -/
theorem truncatedFrameParses : Obligations.TruncatedFrameParses := by
  intro r payload n hpos hmax
  have henc := encLen_le_encOut r (8 * payload.length)
  refine ⟨fun hn => ?_, fun hheader hn => ?_⟩
  · exact (carriesFrame_take (m := 64 + encLen (8 * payload.length) r) (by omega) (by omega)).decodeFrame_eq_ok (Nat.le_refl _) hpos hmax
  · have hcarries : CarriesFrame ((encodeFrame payload r).take n) 64 payload r 64 := carriesFrame_take hheader (Nat.le_add_right ..)
    have hlen := hcarries.lengthField_eq (Nat.le_refl _) (by omega)
    refine decodeFrame_shortPayload (hlen ▸ hpos) (hlen ▸ hmax) hcarries.fits ?_
    rw [hlen, List.length_take]
    omega

end Sys2Proof.Machine
end

section
/-! PROOFS. The Synchronizer (R231 to R236, R239): the scan either looks at its whole scan set, and its accumulator then holds the first
offset with the fewest mismatches, or it stops at the first offset with at most 2. What `findPreamble` answers, and its guarantees, follow
from that alone. -/

namespace Sys2Proof.Machine

/-! ### The match count at an offset (R234) -/

/-- A position past the end of `a` is no agreement, so the positions of `b` are all that count. -/
theorem agreements_eq_countP (a b : Bits) :
    agreements a b = (List.range b.length).countP fun j => decide (a[j]? = b[j]?) := by
  induction a generalizing b with
  | nil =>
    have hnone : ∀ j ∈ List.range b.length, ¬ decide (([] : Bits)[j]? = b[j]?) = true := by simp [eq_comm]
    rw [List.countP_eq_zero.mpr hnone, agreements, List.zipWith_nil_left, List.count_nil]
  | cons x a ih =>
    cases b with
    | nil => rfl
    | cons y b =>
      have htail := ih b
      simp only [agreements] at htail
      rw [List.length_cons, List.range_succ_eq_map, List.countP_cons, List.countP_map]
      simp [agreements, List.count_cons, htail, Function.comp_def]

theorem matchCount_drop (bits : Bits) (off : Nat) : matchCount (bits.drop off) = similarity bits off := by
  simp only [matchCount, agreements_eq_countP, preamble_length, List.getElem?_drop, similarity]

/-- The scan set is what a full scan visits (R232). -/
theorem inScanSet_iff {margin off : Nat} {bits : Bits} : inScanSet margin bits off ↔ off < scanLength bits.length margin := by
  simp only [inScanSet, scanLength, maxScan]
  omega

/-! ### The accumulator (R233) -/

/-- After the offsets below `n` the accumulator holds their highest match count and the lowest offset that has it; a negative count says
that none was scanned. -/
structure BestBelow (bits : Bits) (n : Nat) (best : Best) : Prop where
  upper : ∀ q < n, (similarity bits q : Int) ≤ best.count
  attained : 0 ≤ best.count → best.offset < n ∧ best.count = similarity bits best.offset
  first : 0 ≤ best.count → ∀ q < best.offset, (similarity bits q : Int) < best.count

namespace BestBelow

variable {bits : Bits} {n : Nat} {best : Best}

theorem unset (bits : Bits) : BestBelow bits 0 Best.unset where
  upper q hq := absurd hq (Nat.not_lt_zero q)
  attained h := absurd h (by decide)
  first h := absurd h (by decide)

theorem update (h : BestBelow bits n best) : BestBelow bits (n + 1) (best.update (similarity bits n) n) := by
  rcases Int.lt_or_le best.count (similarity bits n) with hlt | hle
  · rw [Best.update, if_pos hlt]
    have hbelow : ∀ q < n, (similarity bits q : Int) < similarity bits n := fun q hq => Int.lt_of_le_of_lt (h.upper q hq) hlt
    have hupper := Nat.forall_lt_succ_right.mpr ⟨fun q hq => Int.le_of_lt (hbelow q hq), Int.le_refl _⟩
    exact ⟨hupper, fun _ => ⟨Nat.lt_succ_self n, rfl⟩, fun _ => hbelow⟩
  · rw [Best.update, if_neg (Int.not_lt.mpr hle)]
    have hattained := fun hscanned => (h.attained hscanned).imp_left (Nat.lt_succ_of_lt ·)
    exact ⟨Nat.forall_lt_succ_right.mpr ⟨h.upper, hle⟩, hattained, h.first⟩

/-- Where every offset has a lower count than `n`, the update puts `n` in the accumulator. -/
theorem update_of_forall_lt (h : BestBelow bits n best) (hlt : ∀ q < n, similarity bits q < similarity bits n) :
    best.update (similarity bits n) n = ⟨similarity bits n, n⟩ := by
  refine if_pos (Int.not_le.mp fun hle => ?_)
  obtain ⟨hoff, hcount⟩ := h.attained (by omega)
  have := hlt _ hoff
  omega

end BestBelow

/-! ### The scan (R235) -/

/-- How a scan of the offsets below `n` can end, and what it leaves in the accumulator. -/
inductive ScanEnds (bits : Bits) (n : Nat) : Best → Prop
  /-- No offset stops the scan. -/
  | exhausted {best : Best} (hbest : BestBelow bits n best) (hlow : ∀ q < n, similarity bits q ≤ 61) : ScanEnds bits n best
  /-- Offset `p` is the first one with at most 2 mismatches. -/
  | stopped {p : Nat} (hp : p < n) (hhigh : 62 ≤ similarity bits p) (hlow : ∀ q < p, similarity bits q ≤ 61) :
      ScanEnds bits n ⟨similarity bits p, p⟩

theorem scan_ends {bits : Bits} {best : Best} (k off : Nat) (hbest : BestBelow bits off best)
    (hlow : ∀ q < off, similarity bits q ≤ 61) : ScanEnds bits (off + k) (scan k (bits.drop off) off best) := by
  induction k generalizing off best with
  | zero => exact .exhausted hbest hlow
  | succ k ih =>
    rw [scan, matchCount_drop]
    rcases Nat.lt_or_ge (similarity bits off) 62 with hcount | hcount
    · have hends := ih (off + 1) hbest.update (Nat.forall_lt_succ_right.mpr ⟨hlow, Nat.le_of_lt_succ hcount⟩)
      rw [← List.drop_drop, Nat.add_assoc, Nat.add_comm 1 k] at hends
      exact (if_neg (Nat.not_le.mpr hcount)).symm ▸ hends
    · have hupdate := hbest.update_of_forall_lt fun q hq => Nat.lt_of_le_of_lt (hlow q hq) hcount
      rw [hupdate]
      exact (if_pos hcount).symm ▸ .stopped (by omega) hcount hlow

/-! ### The answer (R231, R236) -/

/-- The offset that the rules prescribe for a scan set of `n` offsets: the first one with at most 2 mismatches, or, where there is none,
the lowest of those with the fewest mismatches, these being at most 6. -/
def Prescribed (bits : Bits) (n p : Nat) : Prop :=
  p < n ∧ 58 ≤ similarity bits p ∧
  ((62 ≤ similarity bits p ∧ ∀ q, q < p → similarity bits q ≤ 61) ∨
   ((∀ q, q < n → similarity bits q ≤ 61) ∧ (∀ q, q < n → similarity bits q ≤ similarity bits p) ∧
    (∀ q, q < p → similarity bits q < similarity bits p)))

namespace Prescribed

variable {bits : Bits} {n p p' : Nat}

/-- Every lower offset has more mismatches, by either clause. -/
theorem lt_of_lt (h : Prescribed bits n p) {q : Nat} (hq : q < p) : similarity bits q < similarity bits p := by
  obtain ⟨-, -, ⟨hhigh, hlow⟩ | ⟨-, -, hfirst⟩⟩ := h
  · exact Nat.lt_of_le_of_lt (hlow q hq) hhigh
  · exact hfirst q hq

/-- A prescribed offset is beaten by a later one only when it stops the scan, and then the later one is not prescribed. -/
theorem not_lt (h : Prescribed bits n p) (h' : Prescribed bits n p') : ¬ p < p' := by
  intro hlt
  have hbeaten := h'.lt_of_lt hlt
  obtain ⟨hp', -, hclause'⟩ := h'
  obtain ⟨hp, -, ⟨hhigh, -⟩ | ⟨-, hmax, -⟩⟩ := h
  · have hlow : similarity bits p ≤ 61 := hclause'.elim (fun ⟨_, hlow⟩ => hlow p hlt) fun ⟨hlow, _⟩ => hlow p hp
    omega
  · exact Nat.not_le.mpr hbeaten (hmax p' hp')

theorem unique (h : Prescribed bits n p) (h' : Prescribed bits n p') : p = p' :=
  Nat.le_antisymm (Nat.not_lt.mp (h'.not_lt h)) (Nat.not_lt.mp (h.not_lt h'))

end Prescribed

/-- The acceptance of R236, on the accumulator that the scan leaves. -/
def Best.answer (best : Best) : Option Nat := if (acceptCount : Int) ≤ best.count then some best.offset else none

theorem findPreamble_eq_answer (margin : Nat) (bits : Bits) :
    findPreamble margin bits = (scan (scanLength bits.length margin) bits 0 Best.unset).answer := rfl

theorem Best.answer_of_accepted {best : Best} (h : 58 ≤ best.count) : best.answer = some best.offset := if_pos h

theorem Best.answer_of_rejected {best : Best} (h : best.count < 58) : best.answer = none := if_neg (Int.not_le.mpr h)

theorem ScanEnds.answer_cases {bits : Bits} {n : Nat} {best : Best} (h : ScanEnds bits n best) :
    (∃ p, best.answer = some p ∧ Prescribed bits n p) ∨ (best.answer = none ∧ ∀ q < n, similarity bits q ≤ 57) := by
  cases h with
  | exhausted hbest hlow =>
    rcases Int.lt_or_le best.count 58 with hreject | haccept
    · refine .inr ⟨Best.answer_of_rejected hreject, fun q hq => ?_⟩
      have := hbest.upper q hq
      omega
    · obtain ⟨hoff, hcount⟩ := hbest.attained (by omega)
      refine .inl ⟨_, Best.answer_of_accepted haccept, hoff, by omega, .inr ⟨hlow, fun q hq => ?_, fun q hq => ?_⟩⟩
      · have := hbest.upper q hq
        omega
      · have := hbest.first (by omega) q hq
        omega
  | @stopped p hp hhigh hlow =>
    have haccept : 58 ≤ similarity bits p := by omega
    exact .inl ⟨p, Best.answer_of_accepted (Int.ofNat_le.mpr haccept), hp, haccept, .inl ⟨hhigh, hlow⟩⟩

theorem findPreamble_cases (margin : Nat) (bits : Bits) :
    (∃ p, findPreamble margin bits = some p ∧ Prescribed bits (scanLength bits.length margin) p) ∨
    (findPreamble margin bits = none ∧ ∀ q < scanLength bits.length margin, similarity bits q ≤ 57) := by
  have hends := scan_ends (scanLength bits.length margin) 0 (BestBelow.unset bits) (by omega)
  rw [Nat.zero_add, List.drop_zero] at hends
  exact findPreamble_eq_answer margin bits ▸ hends.answer_cases

theorem findPreamble_eq_some_iff {margin : Nat} {bits : Bits} {p : Nat} :
    findPreamble margin bits = some p ↔ Prescribed bits (scanLength bits.length margin) p := by
  constructor
  · intro h
    rcases findPreamble_cases margin bits with ⟨p', heq, hp'⟩ | ⟨heq, -⟩ <;> rw [h] at heq <;> cases heq
    exact hp'
  · intro hp
    rcases findPreamble_cases margin bits with ⟨p', heq, hp'⟩ | ⟨-, hlow⟩
    · rw [heq, hp'.unique hp]
    · obtain ⟨hmem, haccept, -⟩ := hp
      have := hlow p hmem
      omega

theorem findPreamble_eq_none_iff {margin : Nat} {bits : Bits} :
    findPreamble margin bits = none ↔ ∀ q < scanLength bits.length margin, similarity bits q ≤ 57 := by
  rcases findPreamble_cases margin bits with ⟨p, heq, hmem, haccept, -⟩ | ⟨heq, hlow⟩
  · refine ⟨fun h => absurd (heq.symm.trans h) (by simp), fun hlow => ?_⟩
    have := hlow p hmem
    omega
  · exact iff_of_true heq hlow

/-- Settles O35: each guarantee is a part of what an answer, or `NONE`, says about the scan set. -/
theorem findPreambleGuarantees : Obligations.FindPreambleGuarantees := by
  intro margin bits
  simp only [inScanSet_iff, findPreamble_eq_some_iff, ne_eq, findPreamble_eq_none_iff]
  refine ⟨fun off ⟨hmem, haccept, _⟩ => ⟨hmem, by omega⟩, fun ⟨off, hmem, hclose⟩ hlow => ?_, fun hlow off hmem => ?_,
    fun p hmem hclose hbefore => ?_, fun p hmem hfar hclose hbefore hfewest => ?_⟩
  · have := hlow off hmem
    omega
  · have := hlow off hmem
    omega
  · refine ⟨hmem, by omega, .inl ⟨by omega, fun q hq => ?_⟩⟩
    have := hbefore q hq
    omega
  · have hmax : ∀ q, q < scanLength bits.length margin → similarity bits q ≤ similarity bits p := fun q hq => by
      have := hfewest q hq
      omega
    refine ⟨hmem, by omega, .inr ⟨fun q hq => ?_, hmax, fun q hq => ?_⟩⟩
    · have := hmax q hq
      omega
    · have := hbefore q hq
      omega

/-! ### The operation -/

theorem findPreambleResponse_eq_index_iff {o : Option Nat} {p : Nat} :
    findPreambleResponse o = ⟨.ok, none, .index p⟩ ↔ o = some p := by
  cases o <;> simp [findPreambleResponse, Response.ok, Response.notFound]

theorem findPreambleResponse_eq_none_iff {o : Option Nat} : findPreambleResponse o = ⟨.none, none, .none⟩ ↔ o = none := by
  cases o <;> simp [findPreambleResponse, Response.ok, Response.notFound]

/-- Settles O34: the response shows the answer of `findPreamble`, and that is the prescribed offset or `NONE`. -/
theorem findPreambleResult : Obligations.FindPreambleResult := by
  refine ⟨decodeWord_eq_ok.mpr rfl, fun s hw => ⟨_, sequenceCommand_within hw _, fun p => ?_, ?_⟩⟩
  · simp only [inScanSet_iff]
    exact findPreambleResponse_eq_index_iff.trans findPreamble_eq_some_iff
  · simp only [inScanSet_iff]
    exact findPreambleResponse_eq_none_iff.trans findPreamble_eq_none_iff

end Sys2Proof.Machine
end

section
/-! PROOFS. The session commands of the host (R260, R261, R278, R279): the three answers of `SSTART`, what a second `SSTART` does to a
session that still waits, `SSTOP` and `SSNAP`. -/

namespace Sys2Proof.Machine

/-! ### The three answers of `SSTART` -/

theorem StartRecord.valid_iff (r : StartRecord) :
    r.valid = true ↔ r.params.sps ≠ 0 ∧ r.kind ≠ .reserved ∧ r.present = true ∧ r.bytes.length ≤ maxPayload := by
  simp [StartRecord.valid, and_assoc]

theorem State.live_eq_true {s : State} : s.live = true ↔ s.record.fsm ≠ .idle ∧ s.record.fsm ≠ .stopped := by
  simp [State.live]

theorem execSstart_busy {s : State} (h : s.live = true) : execSstart s = .next (s.answered ⟨.busy, none, .none⟩) := by
  simp only [execSstart, h]
  rfl

theorem execSstart_refused {s : State} (h : s.live = false) (hv : s.operands.record.valid = false) :
    execSstart s = .next ((s.emit [.notify (.onFailed .configError)]).answered ⟨.configError, none, .none⟩) := by
  simp only [execSstart, h, hv]
  rfl

/-- Settles O36, by the three branches of R260. -/
theorem sstartRule : Obligations.SstartRule := by
  refine ⟨decodeWord_eq_ok.mpr rfl, fun s hidle hstopped => ?_, fun s hfsm hbad => ?_, fun s hfsm hsps hkind hpresent hlen => ?_⟩
  · exact execSstart_busy (State.live_eq_true.mpr ⟨hidle, hstopped⟩)
  · have hv : s.operands.record.valid = false := by
      rw [Bool.eq_false_iff, Ne, StartRecord.valid_iff]
      rintro ⟨hsps, hkind, hpresent, hlen⟩
      rcases hbad with h | h | h | h
      · exact hsps h
      · exact hkind h
      · exact Bool.false_ne_true (h.symm.trans hpresent)
      · exact Nat.not_lt.mpr hlen h
    refine (execSstart_refused (State.live_eq_false.mpr hfsm) hv).trans ?_
    simp [State.answered, State.emit]
  · exact execSstart_accepted hfsm ((StartRecord.valid_iff _).mpr ⟨hsps, hkind, hpresent, hlen⟩)

/-- Settles O37: the record and the registers that an accepted `SSTART` writes do not depend on those it finds, but for `S`, which the
first one leaves. -/
theorem sstartReplacesWaitingSession : Obligations.SstartReplacesWaitingSession := by
  intro s o hfsm hfirst hsecond
  refine ⟨_, _, _, execSstart_accepted hfsm hfirst, rfl, rfl, execSstart_accepted hfsm hsecond, execSstart_accepted hfsm hsecond, ?_⟩
  simp [State.answered, State.startSession, SessionRecord.sessionReset]

/-! ### `SSTOP` and `SSNAP` -/

/-- Settles O38: in every state `SSTOP` is the one update. -/
theorem sstopClearsRunning : Obligations.SstopClearsRunning := ⟨decodeWord_eq_ok.mpr rfl, exec_sstop⟩

/-- Settles O39: `SSNAP` answers with the registers as they stand. -/
theorem ssnapCopiesRecord : Obligations.SsnapCopiesRecord := ⟨decodeWord_eq_ok.mpr rfl, fun _ => rfl⟩

end Sys2Proof.Machine
end

section
/-! PROOFS. The worker's steps R262 to R276, each at its position: what a turn writes when the Radio Device's call returns and when it
fails, and that it writes nothing else. -/

namespace Sys2Proof.Machine

/-! ### A turn of the worker -/

/-- `s` with these moves to come: what a turn of the worker starts from. -/
def State.withInputs (s : State) (rest : List Input) : State := { s with inputs := rest }

theorem step_workerTurn {s : State} {a b : RadioAnswer} {rest : List Input} (h : s.inputs = .worker a b :: rest) :
    step s = .next (workerStep a b (s.withInputs rest)) := by
  simp only [step, h]
  rfl

/-! ### Calls that fail -/

/-- What a failed call that may have taken effect leaves in the device: the register it would have written, new or old (U8, U19). -/
theorem deviceAfterFailure_setReceiveBufferSize (tookEffect : Bool) (d : RadioDevice) (n : BitVec 22) :
    ∃ size, (size = n ∨ size = d.rxSize) ∧ deviceAfterFailure tookEffect d (.setReceiveBufferSize n) = { d with rxSize := size } := by
  cases tookEffect with
  | true => exact ⟨n, .inl rfl, rfl⟩
  | false => exact ⟨d.rxSize, .inr rfl, rfl⟩

theorem deviceAfterFailure_transmit (tookEffect : Bool) (d : RadioDevice) (w : List Sample) :
    ∃ armed, (d.txArmed = true → armed = true) ∧ deviceAfterFailure tookEffect d (.transmit w) = { d with txArmed := armed } := by
  cases tookEffect with
  | true => exact ⟨true, fun _ => rfl, rfl⟩
  | false => exact ⟨d.txArmed, id, rfl⟩

theorem deviceAfterFailure_receive (tookEffect : Bool) (d : RadioDevice) :
    ∃ armed, (d.rxArmed = true → armed = true) ∧ deviceAfterFailure tookEffect d .receive = { d with rxArmed := armed } := by
  cases tookEffect with
  | true => exact ⟨true, fun _ => rfl, rfl⟩
  | false => exact ⟨d.rxArmed, id, rfl⟩

/-! ### Configure, build, size, transmit -/

/-- Settles O40, by the answer to `configure`. -/
theorem workerConfigureStep : Obligations.WorkerConfigureStep := by
  intro s a b rest hin hw
  rw [step_workerTurn hin, workerStep_configure (s := s.withInputs rest) hw]
  refine ⟨?_, ?_⟩
  · rintro buf rfl
    rfl
  · rintro rfl
    exact ⟨_, rfl⟩

/-- Settles O41: the sample count of an admitted payload fits its register. -/
theorem workerBuildStep : Obligations.WorkerBuildStep := by
  intro s a b rest hin hw hlen
  rw [step_workerTurn hin, workerStep_build (s := s.withInputs rest) hw]
  exact ⟨_, rfl, frameSamples_exact hlen _ _⟩

/-- Settles O42: the clamped window fits its register, and the call that follows returns or fails. -/
theorem workerSizeStep : Obligations.WorkerSizeStep := by
  intro s a b rest hin hw
  rw [step_workerTurn hin, workerStep_size (s := s.withInputs rest) hw, workerSize_eq]
  refine ⟨_, (receiveWindow_exact _).1, ?_, ?_⟩
  · rintro buf rfl
    rfl
  · rintro rfl
    obtain ⟨size, hsize, hdevice⟩ := deviceAfterFailure_setReceiveBufferSize (Config.failedCallTookEffect s.draws) s.radio
      s.withWindow.record.rxBufSize
    exact ⟨size, hsize, by rw [← hdevice]; rfl⟩

/-- Settles O43, by the answer to `transmit`. -/
theorem workerTransmitStep : Obligations.WorkerTransmitStep := by
  intro s a b rest hin hw
  rw [step_workerTurn hin, workerStep_transmit (s := s.withInputs rest) hw]
  refine ⟨?_, ?_⟩
  · rintro buf rfl
    rfl
  · rintro rfl
    obtain ⟨armed, harmed, hdevice⟩ := deviceAfterFailure_transmit (Config.failedCallTookEffect s.draws) s.radio s.wave
    exact ⟨armed, harmed, by rw [← hdevice]; rfl⟩

/-! ### Settle, poll, receive, diagnose -/

/-- Settles O44: the tests of R270 in their order. -/
theorem workerSettleAndPollSteps : Obligations.WorkerSettleAndPollSteps := by
  intro s a b rest hin
  rw [step_workerTurn hin]
  refine ⟨fun hw => ?_, fun hw hrun => ?_, fun hw hrun hspent => ?_, fun hw hrun hleft => ?_⟩
  · rw [workerStep_settle (s := s.withInputs rest) hw]
    rfl
  all_goals rw [workerStep_poll (s := s.withInputs rest) hw]
  · exact congrArg _ (if_pos hrun)
  · exact congrArg _ ((if_neg (ne_false_of_eq_true hrun)).trans (if_pos hspent))
  · exact congrArg _ ((if_neg (ne_false_of_eq_true hrun)).trans (if_neg (Nat.not_le.mpr hleft)))

/-- Settles O45, by the answer to `receive`. -/
theorem workerReceiveStep : Obligations.WorkerReceiveStep := by
  intro s a b rest hin hw
  rw [step_workerTurn hin, workerStep_receive (s := s.withInputs rest) hw]
  refine ⟨?_, ?_⟩
  · rintro samples rfl
    obtain ⟨hlen, hsame⟩ := buffer_returned s.record.rxBufSize.toNat samples
    exact ⟨_, hlen, hsame, rfl⟩
  · rintro rfl
    obtain ⟨armed, harmed, hdevice⟩ := deviceAfterFailure_receive (Config.failedCallTookEffect s.draws) s.radio
    exact ⟨armed, harmed, by rw [← hdevice]; rfl⟩

/-- A buffer that is not silent draws no free value, and its estimate is the one of R281. -/
theorem estimateSnr_of_ne_zero {buf : List Sample} (h : meanPower buf ≠ 0) (draw : Nat) :
    estimateSnr draw buf = .tenLog10 (meanPower buf) (imagVariance buf) ∧ snrDraws buf = 0 :=
  ⟨if_neg h, if_neg h⟩

/-- Settles O46: the estimate is the one of R281 where the buffer is not silent. -/
theorem workerDiagnoseStep : Obligations.WorkerDiagnoseStep := by
  intro s a b rest hin hw
  rw [step_workerTurn hin, workerStep_diagnose (s := s.withInputs rest) hw]
  refine ⟨estimateSnr s.draws s.rxBuffer, s.draws + snrDraws s.rxBuffer, rfl, fun hpower => ?_⟩
  obtain ⟨hsnr, hdraws⟩ := estimateSnr_of_ne_zero hpower s.draws
  rw [hsnr, hdraws]
  exact ⟨rfl, fun _ _ => rfl⟩

/-! ### Attempt -/

/-- An attempt succeeds exactly where the one offset found decodes (R273). -/
theorem receiveAttempt_eq_some_iff {margin : Nat} {rate : Rate} {bits : Bits} {payload : Bytes} :
    receiveAttempt margin rate bits = some payload ↔
      ∃ off, findPreamble margin bits = some off ∧ decodeFrame bits (off + 64) rate = .ok payload := by
  unfold receiveAttempt
  cases findPreamble margin bits with
  | none => simp
  | some off => cases hd : decodeFrame bits (off + 64) rate <;> simp [hd]

theorem workerAttempt_decoded {s : State} {payload : Bytes}
    (h : receiveAttempt s.config.syncMargin s.params.rate (detect s.rxBuffer s.params.sps.toNat) = some payload) :
    workerAttempt s =
      { s with buffers := { s.buffers with result := payload, resultValid := true },
               record := { s.record with decodes := s.record.decodes + 1, fsm := .decoded }, rxBuffer := [], worker := .finish } := by
  simp only [workerAttempt, h]

theorem workerAttempt_missed {s : State}
    (h : receiveAttempt s.config.syncMargin s.params.rate (detect s.rxBuffer s.params.sps.toNat) = none) :
    workerAttempt s = { s with rxBuffer := [], worker := .poll } := by
  simp only [workerAttempt, h]

theorem detectWindows_length (k sps : Nat) (buf : List Sample) : (detectWindows k sps buf).length = k := by
  induction k generalizing buf with
  | zero => rfl
  | succ k ih => simp [detectWindows, ih]

/-- One bit a whole window; `sps = 0` gives none. -/
theorem detect_length (buf : List Sample) (sps : Nat) : (detect buf sps).length = buf.length / sps := detectWindows_length _ _ _

/-- Settles O47: an offset found is in the scan set (R232), and an accepted frame is whole (R209). -/
theorem workerAttemptStep : Obligations.WorkerAttemptStep := by
  intro s a b rest hin hw
  rw [step_workerTurn hin, workerStep_attempt (s := s.withInputs rest) hw]
  refine ⟨fun off payload hoff hdec => ?_, fun hmiss => ?_, fun off payload hoff hdec => ?_⟩
  · exact congrArg _ (workerAttempt_decoded (receiveAttempt_eq_some_iff.mpr ⟨off, hoff, hdec⟩))
  · refine congrArg _ (workerAttempt_missed (Option.eq_none_iff_forall_ne_some.mpr fun payload h => ?_))
    obtain ⟨off, hoff, hdec⟩ := receiveAttempt_eq_some_iff.mp h
    exact hmiss off payload hoff hdec
  · obtain ⟨hfound, -⟩ := findPreambleGuarantees s.config.syncMargin (detect s.rxBuffer s.params.sps.toNat)
    obtain ⟨⟨hscan, hroom⟩, -⟩ := hfound off hoff
    have hwhole := (decodeFrame_eq_ok_iff.mp hdec).whole
    rw [detect_length] at hroom hwhole
    exact ⟨hscan, hroom, by omega⟩

/-! ### Finish -/

theorem RadioAnswer.succeeded_iff (a : RadioAnswer) : a.succeeded = true ↔ a ≠ .failed := by
  cases a <;> simp [RadioAnswer.succeeded]

theorem RadioAnswer.succeeded_eq_decide (a : RadioAnswer) : a.succeeded = decide (a ≠ .failed) := by
  cases a <;> rfl

/-- The way out (R276), but for what the releases leave in the device and the free values they draw. -/
theorem leaveSession_eq (s : State) (a b : RadioAnswer) :
    s.leaveSession a b =
      { s with
        radio := (s.leaveSession a b).radio
        draws := (s.leaveSession a b).draws
        record := { s.record with running := false, fsm := .stopped }
        worker := .resting
        trace := s.trace ++
          [.call .releaseTransmitBuffer a.succeeded, .call .releaseReceiveBuffer b.succeeded, .notify s.outcomeNotice] } := by
  rw [← leaveSession_trace, ← leaveSession_record s a b]
  obtain ⟨hparams, hbuffers, hrxBuffer, hconfig, hoperands, hinputs⟩ := leaveSession_rest s a b
  rw [← hparams, ← hbuffers, ← hrxBuffer, ← hconfig, ← hoperands, ← hinputs, ← leaveSession_worker s a b]

theorem leaveSession_draws (s : State) {a b : RadioAnswer} (ha : a ≠ .failed) (hb : b ≠ .failed) :
    (s.leaveSession a b).draws = s.draws := by
  cases a with
  | failed => exact absurd rfl ha
  | returned _ => cases b with
    | failed => exact absurd rfl hb
    | returned _ => rfl

/-- Settles O48: what the way out leaves in the device, and the rest of it. -/
theorem workerFinishStep : Obligations.WorkerFinishStep := by
  intro s a b rest hin hw
  obtain ⟨tx, rx, hradio, htx, hrx, htxOld, hrxOld⟩ := leaveSession_radio (s.withInputs rest) a b
  refine ⟨tx, rx, ((s.withInputs rest).leaveSession a b).draws, ?_, fun ha => htx (a.succeeded_iff.mpr ha),
    fun hb => hrx (b.succeeded_iff.mpr hb), htxOld, hrxOld, leaveSession_draws _⟩
  rw [step_workerTurn hin, workerStep_finish (s := s.withInputs rest) hw, leaveSession_eq, hradio, a.succeeded_eq_decide, b.succeeded_eq_decide]
  rfl

end Sys2Proof.Machine
end

section
/-! PROOFS. The boundary functions (R280, R282): the mapper sample by sample, the detector window by window, and that the detector
undoes the mapper. -/

namespace Sys2Proof.Machine

/-! ### The mapper -/

theorem mapFrame_cons (amp : Nat) (b : Bool) (f : Bits) (sps : Nat) :
    mapFrame amp (b :: f) sps = List.replicate sps (symbol amp b) ++ mapFrame amp f sps := List.flatMap_cons

theorem mapFrame_length (amp : Nat) (f : Bits) (sps : Nat) : (mapFrame amp f sps).length = f.length * sps := by
  simp [mapFrame]

/-- Sample `t` of bit `k` (R280). -/
theorem mapFrame_getElem? (amp : Nat) {f : Bits} {sps k t : Nat} {b : Bool} (hk : f[k]? = some b) (ht : t < sps) :
    (mapFrame amp f sps)[k * sps + t]? = some (symbol amp b) := by
  induction f generalizing k with
  | nil => simp at hk
  | cons c f ih =>
    rw [mapFrame_cons]
    cases k with
    | zero =>
      obtain rfl : c = b := by simpa using hk
      simp [List.getElem?_append_left, ht]
    | succ k =>
      have hindex : (k + 1) * sps + t = sps + (k * sps + t) := by rw [Nat.add_one_mul]; omega
      rw [hindex, List.getElem?_append_right (by simp)]
      simpa using ih (by simpa using hk)

/-! ### The detector -/

theorem total_eq_sum (xs : List Rat) : total xs = xs.sum := List.sum_eq_foldl.symm

/-- A window's bit is 1 exactly when the mean of its real parts is above 0 (R282). -/
theorem detectWindow_eq (sps : Nat) (window : List Sample) :
    detectWindow sps window = decide (0 < (window.map Sample.re).sum / (sps : Rat)) := by
  rw [detectWindow, total_eq_sum]

/-- Window `k` starts at sample `k * sps` (R68). -/
theorem detectWindows_getElem? {n k : Nat} (h : k < n) (sps : Nat) (buf : List Sample) :
    (detectWindows n sps buf)[k]? = some (detectWindow sps ((buf.drop (k * sps)).take sps)) := by
  induction n generalizing k buf with
  | zero => exact absurd h (Nat.not_lt_zero k)
  | succ n ih =>
    cases k with
    | zero => simp [detectWindows]
    | succ k =>
      have hstart : sps + k * sps = (k + 1) * sps := by rw [Nat.add_one_mul, Nat.add_comm]
      simpa [detectWindows, hstart] using ih (Nat.lt_of_succ_lt_succ h) (buf.drop sps)

/-! ### The detector undoes the mapper -/

/-- The mean of a bit's samples is the level of its symbol, and the sign of that is the bit. -/
theorem detectWindow_symbols {amp sps : Nat} (hamp : 0 < amp) (hsps : 0 < sps) (b : Bool) :
    detectWindow sps (List.replicate sps (symbol amp b)) = b := by
  have hmean : ((List.replicate sps (symbol amp b)).map Sample.re).sum / (sps : Rat) = (symbol amp b).re := by
    have : (sps : Rat) ≠ 0 := by positivity
    simp [this]
  rw [detectWindow_eq, hmean]
  cases b with
  | true => simpa [symbol] using hamp
  | false => simp [symbol]

theorem detect_mapFrame {amp sps : Nat} (hamp : 0 < amp) (hsps : 0 < sps) (f : Bits) : detect (mapFrame amp f sps) sps = f := by
  rw [detect, mapFrame_length, Nat.mul_div_cancel _ hsps]
  induction f with
  | nil => rfl
  | cons b f ih =>
    rw [mapFrame_cons, List.length_cons, detectWindows, List.take_left' List.length_replicate,
      List.drop_left' List.length_replicate, detectWindow_symbols hamp hsps, ih]

/-- Settles O49, sample by sample, window by window and bit by bit. -/
theorem detectorUndoesMapper : Obligations.DetectorUndoesMapper := by
  refine ⟨fun amp f sps => ⟨mapFrame_length amp f sps, fun k t b => mapFrame_getElem? amp⟩, fun buf sps _ => ?_,
    fun amp f sps hamp hsps => detect_mapFrame hamp hsps f⟩
  refine ⟨detect_length buf sps, fun k hk => ?_⟩
  rw [← detectWindow_eq]
  exact detectWindows_getElem? hk sps buf

end Sys2Proof.Machine
end

section
/-! PROOFS. The course of a session (R251, R269, R276). The turns of the worker are the edges of one graph, `Turn`; a step of a live
session is a turn, or a command that leaves its position, or nothing. The transitions of `S`, the bound on the turns and the count of
calls and reports are read off the edges. -/

namespace Sys2Proof.Machine

/-! ### The graph of the worker's turns -/

/-- How far a session is: where the worker stands, `S` and `READS`. -/
structure Position where
  worker : WorkerStep
  fsm    : SessionState
  reads  : BitVec 32

def State.position (s : State) : Position := ⟨s.worker, s.record.fsm, s.record.reads⟩

theorem position_of_worker {s : State} {w : WorkerStep} (h : s.worker = w) : s.position = ⟨w, s.record.fsm, s.record.reads⟩ := by
  rw [State.position, h]

/-- One turn of a worker that is not at rest, and what it adds to the trace (R262 to R276). -/
inductive Turn : Position → Position → List Output → Prop
  | configured {f r} (addr : Uninterpreted) (txFreq rxFreq sampleRate txGain rxGain : Rat) (cyclicTx : Bool) :
      Turn ⟨.configure, f, r⟩ ⟨.build, .configured, r⟩ [.call (.configure addr txFreq rxFreq sampleRate txGain rxGain cyclicTx) true]
  | configureFailed {f r} (addr : Uninterpreted) (txFreq rxFreq sampleRate txGain rxGain : Rat) (cyclicTx : Bool) :
      Turn ⟨.configure, f, r⟩ ⟨.finish, .failed, r⟩ [.call (.configure addr txFreq rxFreq sampleRate txGain rxGain cyclicTx) false]
  | built {f r} : Turn ⟨.build, f, r⟩ ⟨.size, f, r⟩ []
  | sized {f r} (n : BitVec 22) : Turn ⟨.size, f, r⟩ ⟨.transmit, f, r⟩ [.call (.setReceiveBufferSize n) true]
  | sizeFailed {f r} (n : BitVec 22) : Turn ⟨.size, f, r⟩ ⟨.finish, .failed, r⟩ [.call (.setReceiveBufferSize n) false]
  | transmitted {f r} (wave : List Sample) : Turn ⟨.transmit, f, r⟩ ⟨.settle, .transmitting, r⟩ [.call (.transmit wave) true]
  | transmitFailed {f r} (wave : List Sample) : Turn ⟨.transmit, f, r⟩ ⟨.finish, .failed, r⟩ [.call (.transmit wave) false]
  | settled {f r} : Turn ⟨.settle, f, r⟩ ⟨.poll, .listening, r⟩ []
  | ended {f r} : Turn ⟨.poll, f, r⟩ ⟨.finish, .failed, r⟩ []
  | polled {f r} : Turn ⟨.poll, f, r⟩ ⟨.receive, f, r⟩ []
  | received {f r} : Turn ⟨.receive, f, r⟩ ⟨.diagnose, f, r + 1⟩ [.call .receive true]
  | receiveFailed {f r} : Turn ⟨.receive, f, r⟩ ⟨.finish, .failed, r⟩ [.call .receive false]
  | diagnosed {f r} (snr : Snr) (reads : BitVec 32) (bufferSize : BitVec 22) (frameSamples : BitVec 64) :
      Turn ⟨.diagnose, f, r⟩ ⟨.attempt, f, r⟩ [.notify (.onStats snr reads bufferSize frameSamples)]
  | missed {f r} : Turn ⟨.attempt, f, r⟩ ⟨.poll, f, r⟩ []
  | decoded {f r} : Turn ⟨.attempt, f, r⟩ ⟨.finish, .decoded, r⟩ []
  | finished {f r} (tx rx : Bool) (report : Notice) (hreport : isOutcomeReport (.notify report) = true) :
      Turn ⟨.finish, f, r⟩ ⟨.resting, .stopped, r⟩
        [.call .releaseTransmitBuffer tx, .call .releaseReceiveBuffer rx, .notify report]

/-- A session at its end reports `onDecoded`, or `onFailed` with a reason that is not `CONFIG_ERROR` (R36, R276). -/
theorem SessionInv.outcomeNotice_isOutcomeReport {s : State} (h : SessionInv s) (hw : s.worker = .finish) :
    isOutcomeReport (.notify s.outcomeNotice) = true := by
  rcases (h.ending hw).outcome with ⟨hfsm, -⟩ | ⟨hfsm, -, -, -, hreason⟩
  · simp [State.outcomeNotice, hfsm, isOutcomeReport]
  · rcases hreason with e | e | e <;> simp [State.outcomeNotice, hfsm, e, isOutcomeReport]

theorem SessionInv.turn {s : State} (h : SessionInv s) (hlive : s.worker ≠ .resting) (a b : RadioAnswer) :
    ∃ out, Turn s.position (Machine.workerStep a b s).position out ∧ (Machine.workerStep a b s).trace = s.trace ++ out := by
  have hsilent : ∀ {t : State}, Turn s.position t.position [] → t.trace = s.trace →
      ∃ out, Turn s.position t.position out ∧ t.trace = s.trace ++ out :=
    fun hturn htrace => ⟨[], hturn, by rw [htrace, List.append_nil]⟩
  cases hw : s.worker with
  | resting => exact absurd hw hlive
  | configure =>
    rw [workerStep_configure hw, position_of_worker hw]
    cases a with
    | failed => exact ⟨_, .configureFailed .., rfl⟩
    | returned _ => exact ⟨_, .configured .., rfl⟩
  | build =>
    rw [workerStep_build hw]
    exact hsilent (position_of_worker hw ▸ .built) rfl
  | size =>
    rw [workerStep_size hw, position_of_worker hw]
    cases a with
    | failed => exact ⟨_, .sizeFailed _, rfl⟩
    | returned _ => exact ⟨_, .sized _, rfl⟩
  | transmit =>
    rw [workerStep_transmit hw, position_of_worker hw]
    cases a with
    | failed => exact ⟨_, .transmitFailed _, rfl⟩
    | returned _ => exact ⟨_, .transmitted _, rfl⟩
  | settle =>
    rw [workerStep_settle hw]
    exact hsilent (position_of_worker hw ▸ .settled) rfl
  | poll =>
    rw [workerStep_poll hw]
    unfold workerPoll
    split
    · exact hsilent (position_of_worker hw ▸ .ended) rfl
    · split
      · exact hsilent (position_of_worker hw ▸ .ended) rfl
      · exact hsilent (position_of_worker hw ▸ .polled) rfl
  | receive =>
    rw [workerStep_receive hw, position_of_worker hw]
    cases a with
    | failed => exact ⟨_, .receiveFailed, rfl⟩
    | returned _ => exact ⟨_, .received, rfl⟩
  | diagnose =>
    rw [workerStep_diagnose hw, position_of_worker hw]
    exact ⟨_, .diagnosed .., rfl⟩
  | attempt =>
    rw [workerStep_attempt hw]
    unfold workerAttempt
    split
    · exact hsilent (position_of_worker hw ▸ .missed) rfl
    · exact hsilent (position_of_worker hw ▸ .decoded) rfl
  | finish =>
    rw [workerStep_finish hw, leaveSession_eq, position_of_worker hw]
    exact ⟨_, .finished _ _ _ (h.outcomeNotice_isOutcomeReport hw), rfl⟩

section
variable {p q : Position} {out : List Output} (h : Turn p q out)
include h

/-- No turn leads back to R262. -/
theorem Turn.target_ne_configure : q.worker ≠ .configure := by
  cases h <;> exact nofun

/-- Rest is reached through R276 alone. -/
theorem Turn.stopped_of_resting (hrest : q.worker = .resting) : q.fsm = .stopped := by
  cases h with
  | finished => rfl
  | _ => cases hrest

/-- The report is the last thing a session does (R276). -/
theorem Turn.getLast?_of_resting (hrest : q.worker = .resting) : out.getLast?.map isOutcomeReport = some true := by
  cases h with
  | finished _ _ report hreport => simpa using hreport
  | _ => cases hrest

/-! ### The transitions of `S` -/

/-- From an `S` that belongs to the worker's position a turn leaves `S` or changes it as R251 allows. -/
theorem Turn.allowedChange (hphase : phaseAgrees p.worker p.fsm = true) :
    q.fsm = p.fsm ∨ allowedChange p.fsm q.fsm = true := by
  cases h with
  | built | sized | polled | received | diagnosed | missed => exact .inl rfl
  | @configured f | @configureFailed f | @sizeFailed f | @transmitted f | @transmitFailed f | @settled f | @ended f
  | @receiveFailed f | @decoded f | @finished f =>
    cases f <;> simp [phaseAgrees, Machine.allowedChange] at hphase ⊢

end

/-- Settles O58: a command leaves `S`, and a turn is an edge. -/
theorem sessionStateTransitions : Obligations.SessionStateTransitions := by
  intro s t h hstep
  rcases step_cases hstep with ⟨-, rfl⟩ | ⟨a, b, rest, -, rfl⟩ | ⟨w, o, rest, i, -, -, hex⟩ | ⟨w, o, rest, e, -, -, rfl⟩
  · exact .inl rfl
  · by_cases hlive : s.worker = .resting
    · rw [workerStep_resting (s := { s with inputs := rest }) hlive]
      exact .inl rfl
    · obtain ⟨out, hturn, -⟩ := (h.nextInputs rest).turn hlive a b
      exact hturn.allowedChange h.phase
  · exact .inl (commandsAndSessionRecord i _ t hex).1
  · exact .inl rfl

/-! ### A step of a live session -/

/-- What a command can add to the trace: its response, after `onFailed(CONFIG_ERROR)` where it is a refused `SSTART` (R260, R310). -/
inductive CommandOutput : List Output → Prop
  | answer (r : Response) : CommandOutput [.response r]
  | refusedStart (r : Response) : CommandOutput [.notify (.onFailed .configError), .response r]

/-- No move is listed; or the worker takes a turn; or a command leaves the position, and the parameters too unless it is an `SSTART`
that replaces a session which waits for R262 (log entry 4). -/
inductive LiveStep (s t : State) : Prop
  | idle (hin : s.inputs = []) (ht : t = s)
  | turn (a b : RadioAnswer) (out : List Output) (hin : s.inputs = .worker a b :: t.inputs)
      (hturn : Turn s.position t.position out) (htrace : t.trace = s.trace ++ out) (hparams : t.params = s.params)
  | command (w : Byte) (o : Operands) (out : List Output) (hin : s.inputs = .command w o :: t.inputs)
      (hposition : t.position = s.position) (hout : CommandOutput out) (htrace : t.trace = s.trace ++ out)
      (hparams : t.params = s.params ∨ s.worker = .configure ∧ decodeWord w = .ok .sstart)

section
variable {s : State} (h : SessionInv s) (hlive : s.worker ≠ .resting)
include h hlive

/-- A live session with `S` in `IDLE` or `STOPPED` waits for R262. -/
theorem SessionInv.waits_of_not_live (hfsm : s.live = false) : s.worker = .configure := by
  have hphase := h.phase
  rcases State.live_eq_false.mp hfsm with hf | hf <;> cases hw : s.worker <;> simp [hw, hf, phaseAgrees] at hphase hlive ⊢

theorem SessionInv.liveStep {t : State} (hstep : step s = .next t) : LiveStep s t := by
  rcases step_cases hstep with ⟨hin, rfl⟩ | ⟨a, b, rest, hin, rfl⟩ | ⟨w, o, rest, i, hin, hdec, hex⟩ | ⟨w, o, rest, e, hin, -, rfl⟩
  · exact .idle hin rfl
  · obtain ⟨-, hparams, -, hinputs⟩ := workerStep_keeps a b { s with inputs := rest }
    obtain ⟨out, hturn, htrace⟩ := (h.nextInputs rest).turn hlive a b
    exact .turn a b out (hinputs ▸ hin) hturn htrace hparams
  · rcases exec_cases hex with ⟨r, rfl⟩ | ⟨rfl, hfsm, -, rfl⟩ | ⟨-, -, -, rfl⟩ | ⟨-, rfl⟩
    · exact .command w o _ hin rfl (.answer r) rfl (.inl rfl)
    · have hwaits := h.waits_of_not_live hlive hfsm
      have hreads := h.noEarlyRead (by simp [hwaits])
      refine .command w o _ hin ?_ (.answer _) rfl (.inr ⟨hwaits, hdec⟩)
      rw [position_of_worker hwaits, hreads]
      rfl
    · exact .command w o _ hin rfl (.refusedStart _) (List.append_assoc ..) (.inl rfl)
    · exact .command w o _ hin rfl (.answer _) rfl (.inl rfl)
  · exact .command w o _ hin rfl (.answer _) rfl (.inl rfl)

end

/-! ### Runs -/

/-- Every operation answers a next state (R312): a datapath operation a response, `SSTART` one of its three answers. -/
theorem exec_completes (i : Instr) (s : State) : ∃ t, exec i s = .next t := by
  cases hd : datapath i with
  | true =>
    obtain ⟨r, e, -⟩ := datapathIsIndependentOfSession i s s hd rfl rfl
    exact ⟨_, e⟩
  | false => cases i with
    | sstart =>
      cases hlive : s.live with
      | true => exact ⟨_, execSstart_busy hlive⟩
      | false => cases hvalid : s.operands.record.valid with
        | true => exact ⟨_, execSstart_accepted (State.live_eq_false.mp hlive) hvalid⟩
        | false => exact ⟨_, execSstart_refused hlive hvalid⟩
    | sstop | ssnap => exact ⟨_, rfl⟩
    | _ => cases hd

theorem step_completes (s : State) : ∃ t, step s = .next t := by
  unfold step
  split
  · exact ⟨_, rfl⟩
  · exact ⟨_, rfl⟩
  · split
    · exact exec_completes _ _
    · exact ⟨_, rfl⟩

theorem run_of_step {s u : State} (h : step s = .next u) (k : Nat) :
    Host.Core.run Sys2Proof.core (k + 1) s = Host.Core.run Sys2Proof.core k u := by
  have hcore : Sys2Proof.core.step s = .next u := h
  simp only [Host.Core.run, hcore]

/-! ### The bound on the turns (R269, R381) -/

/-- The most turns that can still follow with `n` reads left of the budget: four a read (R270 to R273), those that lead into the loop
and those out of it. -/
def turnsLeft (n : Nat) : WorkerStep → Nat
  | .resting   => 0
  | .finish    => 1
  | .receive   => 4 * n + 1
  | .poll      => 4 * n + 2
  | .attempt   => 4 * n + 3
  | .settle    => 4 * n + 3
  | .diagnose  => 4 * n + 4
  | .transmit  => 4 * n + 4
  | .size      => 4 * n + 5
  | .build     => 4 * n + 6
  | .configure => 4 * n + 7

theorem turnsLeft_le (n : Nat) (w : WorkerStep) : turnsLeft n w ≤ 4 * n + 7 := by
  cases w <;> simp only [turnsLeft] <;> omega

theorem turnsLeft_pos (n : Nat) {w : WorkerStep} (h : w ≠ .resting) : 0 < turnsLeft n w := by
  cases w with
  | resting => exact absurd rfl h
  | _ => exact Nat.succ_pos _

/-- The reads left of the budget. -/
def Position.readsLeft (p : Position) (maxReads : BitVec 32) : Nat := maxReads.toNat - p.reads.toNat

section
variable {p q : Position} {out : List Output} (h : Turn p q out) {maxReads : BitVec 32}
  (hbudget : p.worker = .receive → p.reads.toNat < maxReads.toNat)
include h hbudget

/-- Only a call of `receive` that returns counts a read, and within the budget `READS` does not wrap (R271). -/
theorem Turn.reads_toNat : q.reads.toNat = p.reads.toNat + if q.worker = .diagnose then 1 else 0 := by
  cases h with
  | @received f r =>
    have hroom : r.toNat < maxReads.toNat := hbudget rfl
    change (r + 1).toNat = r.toNat + 1
    bv_omega
  | _ => rfl

theorem Turn.turnsLeft_lt : turnsLeft (q.readsLeft maxReads) q.worker < turnsLeft (p.readsLeft maxReads) p.worker := by
  cases h with
  | @received f r =>
    have hroom : r.toNat < maxReads.toNat := hbudget rfl
    have hreads : (r + 1).toNat = r.toNat + 1 := (Turn.received (f := f)).reads_toNat hbudget
    simp only [turnsLeft, Position.readsLeft]
    omega
  | @receiveFailed f r =>
    have hroom : r.toNat < maxReads.toNat := hbudget rfl
    simp only [turnsLeft, Position.readsLeft]
    omega
  | _ =>
    simp only [turnsLeft, Position.readsLeft]
    omega

end

theorem noStartBeforeTurn_command {w : Byte} {o : Operands} {rest : List Input}
    (h : noStartBeforeTurn (.command w o :: rest) = true) : decodeWord w ≠ .ok .sstart ∧ noStartBeforeTurn rest = true := by
  unfold noStartBeforeTurn at h
  split at h
  · exact absurd h Bool.false_ne_true
  · exact ⟨‹_›, h⟩

/-- Within `n` steps `s` comes to rest in `STOPPED` with these parameters. -/
def ReachesStopped (s : State) (n : Nat) (params : SessionParams) : Prop :=
  ∃ k t, k ≤ n ∧ Host.Core.run Sys2Proof.core k s = .next t ∧ SessionInv t ∧ t.worker = .resting ∧ t.record.fsm = .stopped ∧
    t.params = params

theorem ReachesStopped.of_step {s u : State} {n : Nat} {params : SessionParams} (h : ReachesStopped u n params)
    (hstep : step s = .next u) : ReachesStopped s (n + 1) params := by
  obtain ⟨k, t, hk, hrun, ht⟩ := h
  exact ⟨k + 1, t, Nat.succ_le_succ hk, (run_of_step hstep k).trans hrun, ht⟩

/-- By induction on the moves to come: a turn ends the session or takes from the bound, a command leaves the position. -/
theorem SessionInv.reachesStopped (moves : List Input) {s : State} (h : SessionInv s) (hin : s.inputs = moves)
    (hlive : s.worker ≠ .resting) (hstart : s.worker = .configure → noStartBeforeTurn moves = true)
    (hturns : turnsLeft (s.position.readsLeft s.params.maxReads) s.worker ≤ moves.countP isWorkerTurn) :
    ReachesStopped s moves.length s.params := by
  induction moves generalizing s with
  | nil => exact absurd hturns (Nat.not_le.mpr (turnsLeft_pos _ hlive))
  | cons move rest ih =>
    obtain ⟨u, hstep⟩ := step_completes s
    have hu := stepKeepsSessionInv s u h hstep
    refine ReachesStopped.of_step ?_ hstep
    cases h.liveStep hlive hstep with
    | idle hnone => exact absurd (hin.symm.trans hnone) nofun
    | turn a b out hmove hturn htrace hparams =>
      obtain ⟨rfl, hrest⟩ := List.cons.inj (hin.symm.trans hmove)
      by_cases hended : u.worker = .resting
      · exact ⟨0, u, Nat.zero_le _, rfl, hu, hended, hturn.stopped_of_resting hended, hparams⟩
      · have hfewer := hturn.turnsLeft_lt h.receiveBudget
        have hcount : (Input.worker a b :: rest).countP isWorkerTurn = rest.countP isWorkerTurn + 1 := List.countP_cons_of_pos rfl
        have hbound := Nat.le_of_lt_succ (Nat.lt_of_lt_of_le hfewer (hturns.trans_eq hcount))
        rw [← hparams] at hbound ⊢
        exact ih hu hrest.symm hended (fun e => absurd e hturn.target_ne_configure) hbound
    | command w o out hmove hposition hout htrace hparams =>
      obtain ⟨rfl, hrest⟩ := List.cons.inj (hin.symm.trans hmove)
      have hworker : u.worker = s.worker := congrArg Position.worker hposition
      have hkept : u.params = s.params :=
        hparams.resolve_right fun ⟨hwaits, hsstart⟩ => (noStartBeforeTurn_command (hstart hwaits)).1 hsstart
      have hcount : (Input.command w o :: rest).countP isWorkerTurn = rest.countP isWorkerTurn := List.countP_cons_of_neg nofun
      have hbound := hturns.trans_eq hcount
      rw [← hposition, ← hworker, ← hkept] at hbound
      rw [← hkept]
      exact ih hu hrest.symm (hworker ▸ hlive) (fun e => (noStartBeforeTurn_command (hstart (hworker ▸ e))).2) hbound

/-- Settles O59: the bound of R381 is one turn more than the worst case. -/
theorem liveSessionReachesStopped : Obligations.LiveSessionReachesStopped := by
  intro s h hlive hstart hturns
  have hbound := turnsLeft_le (s.position.readsLeft s.params.maxReads) s.worker
  obtain ⟨k, t, hk, hrun, ht, hrest, hstopped, hparams⟩ := h.reachesStopped s.inputs rfl hlive hstart
    (hbound.trans ((Nat.le_succ _).trans hturns))
  exact ⟨k, t, hk, hrun, hrest, hstopped, hparams, hparams ▸ ht.readBudget⟩

end Sys2Proof.Machine
end

section
/-! PROOFS. What a whole session does to the Radio Device and the observer (R257, R265, R269, R276): each kind of output belongs to one
position of the worker, so the outputs since R262 are counted by the turns taken at each position, and those are bounded by the graph. -/

namespace Sys2Proof.Machine

/-! ### Outputs by the turns taken -/

/-- One turn taken at `v`, none elsewhere. -/
def oneAt (v w : WorkerStep) : Nat := if w = v then 1 else 0

/-- These outputs are those of `turns w` turns at each position `w`, and this many calls of `receive` among them returned. -/
structure Counts (out : List Output) (turns : WorkerStep → Nat) (received : Nat) : Prop where
  configureCalls   : out.countP isConfigureCall = turns .configure
  transmitCalls    : out.countP isTransmitCall = turns .transmit
  receiveCalls     : out.countP isReceiveCall = turns .receive
  receivedBuffers  : out.countP isReceivedBuffer = received
  readReports      : out.countP isReadReport = turns .diagnose
  transmitReleases : out.countP isTransmitRelease = turns .finish
  receiveReleases  : out.countP isReceiveRelease = turns .finish
  outcomeReports   : out.countP isOutcomeReport = turns .finish

theorem Counts.append {a b : List Output} {m n : WorkerStep → Nat} {c d : Nat} (ha : Counts a m c) (hb : Counts b n d) :
    Counts (a ++ b) (fun w => m w + n w) (c + d) where
  configureCalls := by rw [List.countP_append, ha.configureCalls, hb.configureCalls]
  transmitCalls := by rw [List.countP_append, ha.transmitCalls, hb.transmitCalls]
  receiveCalls := by rw [List.countP_append, ha.receiveCalls, hb.receiveCalls]
  receivedBuffers := by rw [List.countP_append, ha.receivedBuffers, hb.receivedBuffers]
  readReports := by rw [List.countP_append, ha.readReports, hb.readReports]
  transmitReleases := by rw [List.countP_append, ha.transmitReleases, hb.transmitReleases]
  receiveReleases := by rw [List.countP_append, ha.receiveReleases, hb.receiveReleases]
  outcomeReports := by rw [List.countP_append, ha.outcomeReports, hb.outcomeReports]

/-- No output of a command is counted: the `onFailed(CONFIG_ERROR)` of a refused `SSTART` is no report of a session (R36, R260). -/
theorem CommandOutput.counts {out : List Output} (h : CommandOutput out) : Counts out (fun _ => 0) 0 := by
  cases h with
  | answer r => exact ⟨rfl, rfl, rfl, rfl, rfl, rfl, rfl, rfl⟩
  | refusedStart r => exact ⟨rfl, rfl, rfl, rfl, rfl, rfl, rfl, rfl⟩

/-- A turn's outputs are those of its position; only a `receive` that returned leads to R272. -/
theorem Turn.counts {p q : Position} {out : List Output} (h : Turn p q out) :
    Counts out (oneAt p.worker) (oneAt .diagnose q.worker) := by
  cases h with
  | finished tx rx report hreport =>
    cases report with
    | onStats => cases hreport
    | onDecoded => exact ⟨rfl, rfl, rfl, rfl, rfl, rfl, rfl, rfl⟩
    | onFailed => exact ⟨rfl, rfl, rfl, rfl, rfl, rfl, rfl, by simpa [isOutcomeReport, oneAt] using hreport⟩
  | _ => exact ⟨rfl, rfl, rfl, rfl, rfl, rfl, rfl, rfl⟩

/-! ### The turns taken on the way to a position -/

/-- The turns a session can have taken at each position when it has come from R262 to `p`. -/
structure Visits (turns : WorkerStep → Nat) (p : Position) (maxReads : BitVec 32) : Prop where
  configure     : turns .configure + oneAt .configure p.worker = 1
  transmit      : turns .transmit + (beforeTransmit p.worker).toNat ≤ 1
  receive       : p.worker ≠ .finish → p.worker ≠ .resting → turns .receive = p.reads.toNat
  receiveBudget : turns .receive ≤ maxReads.toNat
  diagnose      : turns .diagnose + oneAt .diagnose p.worker = p.reads.toNat
  finish        : turns .finish = oneAt .resting p.worker

/-- Before its first turn. -/
theorem visits_of_configure {p : Position} (hw : p.worker = .configure) (hreads : p.reads = 0) (maxReads : BitVec 32) :
    Visits (fun _ => 0) p maxReads := by
  constructor <;> simp [hw, hreads, oneAt, beforeTransmit]

/-- An `SSTART` that replaces a session at R262 finds no turn taken and no read made, so its own budget holds too (log entry 4). -/
theorem Visits.replaced {turns : WorkerStep → Nat} {p : Position} {maxReads : BitVec 32} (hv : Visits turns p maxReads)
    (hw : p.worker = .configure) (hreads : p.reads = 0) (newMaxReads : BitVec 32) : Visits turns p newMaxReads where
  configure := hv.configure
  transmit := hv.transmit
  receive := hv.receive
  receiveBudget := by simp [hv.receive (by simp [hw]) (by simp [hw]), hreads]
  diagnose := hv.diagnose
  finish := hv.finish

theorem Turn.visits {p q : Position} {out : List Output} (h : Turn p q out) {turns : WorkerStep → Nat} {maxReads : BitVec 32}
    (hv : Visits turns p maxReads) (hbudget : p.worker = .receive → p.reads.toNat < maxReads.toNat) :
    Visits (fun w => turns w + oneAt p.worker w) q maxReads where
  configure := by
    rw [← hv.configure]
    cases h <;> rfl
  transmit := by
    refine le_trans ?_ hv.transmit
    rw [Nat.add_assoc]
    refine Nat.add_le_add_left ?_ _
    cases h <;> simp [oneAt, beforeTransmit]
  receive := by
    intro hfinish hrest
    rw [h.reads_toNat hbudget]
    cases h with
    | finished => exact absurd rfl hrest
    | configureFailed | sizeFailed | transmitFailed | ended | receiveFailed | decoded => exact absurd rfl hfinish
    | _ => rw [← hv.receive nofun nofun]; rfl
  receiveBudget := by
    by_cases hw : p.worker = .receive
    · rw [hv.receive (by simp [hw]) (by simp [hw]), hw]
      exact hbudget hw
    · have hnone : oneAt p.worker .receive = 0 := if_neg (Ne.symm hw)
      rw [hnone]
      exact hv.receiveBudget
  diagnose := by
    rw [h.reads_toNat hbudget, ← hv.diagnose]
    cases h <;> rfl
  finish := by
    rw [hv.finish]
    cases h <;> rfl

/-! ### The outputs of a session -/

/-- Since the trace was `start` the session has come to `s` by these turns, with these outputs. -/
structure Accounted (start : List Output) (s : State) (out : List Output) (turns : WorkerStep → Nat) : Prop where
  trace  : s.trace = start ++ out
  counts : Counts out turns s.record.reads.toNat
  visits : Visits turns s.position s.params.maxReads
  last   : s.worker = .resting → out.getLast?.map isOutcomeReport = some true

theorem SessionInv.accounted_of_configure {s : State} (h : SessionInv s) (hw : s.worker = .configure) :
    Accounted s.trace s [] fun _ => 0 := by
  have hreads : s.record.reads = 0 := h.noEarlyRead (by simp [hw])
  exact {
    trace := (List.append_nil _).symm
    counts := by rw [hreads]; exact ⟨rfl, rfl, rfl, rfl, rfl, rfl, rfl, rfl⟩
    visits := visits_of_configure hw hreads _
    last := fun hrest => absurd (hw.symm.trans hrest) nofun }

theorem LiveStep.accounted {s t : State} (hstep : LiveStep s t) (h : SessionInv s) (hlive : s.worker ≠ .resting)
    {start out : List Output} {turns : WorkerStep → Nat} (hs : Accounted start s out turns) :
    ∃ out turns, Accounted start t out turns := by
  cases hstep with
  | idle hin ht => exact ⟨out, turns, ht ▸ hs⟩
  | turn a b new hin hturn htrace hparams =>
    refine ⟨out ++ new, fun w => turns w + oneAt s.worker w, ?_, ?_, ?_, fun hrest => ?_⟩
    · rw [htrace, hs.trace, List.append_assoc]
    · have hreads : t.record.reads.toNat = s.record.reads.toNat + oneAt .diagnose t.worker := hturn.reads_toNat h.receiveBudget
      rw [hreads]
      exact hs.counts.append hturn.counts
    · rw [hparams]
      exact hturn.visits hs.visits h.receiveBudget
    · have hlast := hturn.getLast?_of_resting hrest
      obtain ⟨report, hreport, -⟩ := Option.map_eq_some_iff.mp hlast
      rw [List.getLast?_append, hreport, Option.some_or, ← hreport]
      exact hlast
  | command w o new hin hposition hout htrace hparams =>
    have hworker : t.worker = s.worker := congrArg Position.worker hposition
    have hreads : t.record.reads = s.record.reads := congrArg Position.reads hposition
    refine ⟨out ++ new, turns, ?_, ?_, ?_, fun hrest => absurd (hworker.symm.trans hrest) hlive⟩
    · rw [htrace, hs.trace, List.append_assoc]
    · rw [hreads]
      exact hs.counts.append hout.counts
    · rw [hposition]
      rcases hparams with hparams | ⟨hwaits, -⟩
      · exact hparams ▸ hs.visits
      · exact hs.visits.replaced hwaits (h.noEarlyRead (by simp [hwaits])) _

/-- By induction on the steps: up to the first state at rest each step is one of a live session. -/
theorem accounted_at_rest {start : List Output} (k : Nat) {s t : State} {out : List Output} {turns : WorkerStep → Nat}
    (h : SessionInv s) (hs : Accounted start s out turns) (hrun : Host.Core.run Sys2Proof.core k s = .next t)
    (hfirst : ∀ j u, j < k → Host.Core.run Sys2Proof.core j s = .next u → u.worker ≠ .resting) :
    ∃ out turns, Accounted start t out turns := by
  induction k generalizing s out turns with
  | zero =>
    injection hrun with hrun
    exact ⟨out, turns, hrun ▸ hs⟩
  | succ k ih =>
    have hlive : s.worker ≠ .resting := hfirst 0 s (Nat.succ_pos k) rfl
    obtain ⟨u, hstep⟩ := step_completes s
    obtain ⟨out', turns', hu⟩ := (h.liveStep hlive hstep).accounted h hlive hs
    exact ih (stepKeepsSessionInv s u h hstep) hu ((run_of_step hstep k).symm.trans hrun) fun j v hj hv =>
      hfirst (j + 1) v (Nat.succ_lt_succ hj) ((run_of_step hstep j).trans hv)

/-- Settles O60: at rest every position on the way has been left as often as the graph allows. -/
theorem sessionCallsAndReports : Obligations.SessionCallsAndReports := by
  intro s t k h hw hrun hrest hfirst
  obtain ⟨out, turns, htrace, hcounts, hvisits, hlast⟩ := accounted_at_rest k h (h.accounted_of_configure hw) hrun hfirst
  rw [position_of_worker hrest] at hvisits
  have hfinish : turns .finish = 1 := hvisits.finish
  exact ⟨out, htrace, hcounts.configureCalls.trans hvisits.configure, hcounts.transmitCalls.trans_le hvisits.transmit,
    hcounts.transmitReleases.trans hfinish, hcounts.receiveReleases.trans hfinish, hcounts.receivedBuffers,
    hcounts.readReports.trans hvisits.diagnose, hcounts.receiveCalls.trans_le hvisits.receiveBudget,
    hcounts.outcomeReports.trans hfinish, hlast hrest⟩

end Sys2Proof.Machine
end

section
/-! PROOFS. The exceptions (R312, R327): what falls outside an operation's domain is answered by a status code in the next state. -/

namespace Sys2Proof.Machine

/-- Settles O52: `exec` completes for each operation, and a step idles (R350), takes the worker's turn, answers `ILLEGAL_CMD` or is
the `exec` of the operation decoded. -/
theorem everyStepCompletes : Obligations.EveryStepCompletes :=
  ⟨exec_completes, step_completes⟩

end Sys2Proof.Machine
end

section
/-! PROOFS. The next move (R350, R259, R277): with none listed a step idles, a turn of the worker is the worker's next step, and a worker
at rest has none. -/

namespace Sys2Proof.Machine

theorem step_noMove {s : State} (h : s.inputs = []) : step s = .next s := by
  simp only [step, h]

/-- R277: no further step is taken, so RESULT and the parameters stay. -/
theorem step_turnAtRest {s : State} {a b : RadioAnswer} {rest : List Input} (hin : s.inputs = .worker a b :: rest)
    (hrest : s.worker = .resting) : step s = .next (s.withInputs rest) := by
  have hworker : (s.withInputs rest).worker = .resting := hrest
  rw [step_workerTurn hin, workerStep_resting hworker]

/-- Settles O5: one rule of `step` for each clause. -/
theorem stepTakesNextMove : Obligations.StepTakesNextMove :=
  ⟨fun _ => step_noMove, fun _ _ _ _ => step_workerTurn, fun _ _ _ _ => step_turnAtRest⟩

end Sys2Proof.Machine
end
